-- ==== Sys2Proof/Word.lean ====
section
/-! DEFINITION. The word types of the block (00_scope.md R9, R10): every value is an unsigned bit vector of the width
the spec states. -/

namespace Sys2Proof

/-- A byte: a task-file register, a status byte, a payload byte (R9, R51). -/
abbrev Byte := BitVec 8

/-- A 32-bit word: configuration address and data, a PciTag, a sector word, a result value (R9, R57, R86). -/
abbrev Word := BitVec 32

/-- An I/O port address. Sums wrap modulo 2^16 (R9, R50, R54). -/
abbrev Port := BitVec 16

/-- The header word `H` of a request (R70). -/
abbrev Header := BitVec 64

end Sys2Proof
end

