-- ==== Sys2Proof/Syntax.lean ====
section
/-! DEFINITION. The instructions: the ten requests of 30_encoding.md R71 and the two ATA command bytes of R82, one
constructor per row of spec/opcode_table.json. Also their raw form (R70, R84) and the events a step emits (R85). -/

namespace Sys2Proof

/-- The block's instructions. A request's fields are those of R71, as latched (R21). -/
inductive Instr where
  /-- CFG_READ, op 0x01 (R101). `width` is in bytes. -/
  | cfgRead (tagf : BitVec 16) (reg : BitVec 8) (width : BitVec 3)
  /-- CFG_WRITE, op 0x02 (R102). -/
  | cfgWrite (tagf : BitVec 16) (reg : BitVec 8) (val : Word)
  /-- TAG_MAKE, op 0x03 (R103). -/
  | tagMake (bus : BitVec 8) (dev : BitVec 5) (fn : BitVec 3)
  /-- TAG_SPLIT, op 0x04 (R104). -/
  | tagSplit (tag : Word)
  /-- BAR_DECODE, op 0x05 (R121). -/
  | barDecode (raw : Word)
  /-- ATTACH, op 0x10 (R122). -/
  | attach (vendor device tagf : BitVec 16)
  /-- START, op 0x20 (R144). `payload` is the 512 bytes of a write START and empty otherwise (R84). -/
  | start (unit : BitVec 1) (writing : Bool) (lba : BitVec 28) (payload : List Byte)
  /-- COMPLETE, op 0x21 (R147). -/
  | complete (writing : Bool)
  /-- HAS_INTR, op 0x30 (R171). -/
  | hasIntr
  /-- CLEAR_INTR, op 0x31 (R172). -/
  | clearIntr
  /-- ATA_CMD_READ, the byte 0x20 a read START writes to `cmd + 7` (R82, R144). -/
  | ataCmdRead
  /-- ATA_CMD_WRITE, the byte 0x30 a write START writes to `cmd + 7` (R82, R144). -/
  | ataCmdWrite
  deriving DecidableEq, Repr

/-- A request as the host offers it: the header word and the bytes after it (R70, R84). -/
structure Request where
  header  : Header
  payload : List Byte
  deriving DecidableEq, Repr

/-- An instruction's raw form: format REQ64 with its payload, or format ATA_CMD8 (spec/opcode_table.json). -/
inductive Code where
  | request (r : Request)
  | command (b : Byte)
  deriving DecidableEq, Repr

/-- The block's events (R11, R85). The number in a name is the access width in bytes. -/
inductive Event where
  /-- `OUT(port, 1, v)` -/
  | out1 (port : Port) (v : Byte)
  /-- `OUT(port, 4, v)` -/
  | out4 (port : Port) (v : Word)
  /-- `IN(port, 1, v)`, `v` the oracle's answer. -/
  | in1 (port : Port) (v : Byte)
  /-- `IN(port, 4, v)`, `v` the oracle's answer. -/
  | in4 (port : Port) (v : Word)
  /-- `EOI(irq)` (R174). -/
  | eoi (irq : Word)
  /-- `Diag(WAIT_SPIN, port)` (R219). -/
  | diag (port : Port)
  deriving DecidableEq, Repr

/-- An event with the id of the request that emitted it (R34, R85). DESIGN CHOICE of the id's form: log 7. -/
structure Entry where
  id    : Nat
  event : Event
  deriving DecidableEq, Repr

end Sys2Proof
end

