-- ==== Sys2Proof/Config.lean ====
section
/-! DEFINITION. The constants the source fixes (00_scope.md R7), the parameters it leaves open (R8), and the one free
value: what the port-space oracle answers (20_memory.md R55). -/

namespace Sys2Proof

/-- P_PROBE_WAIT: the wait PROBE begins with (R8, R143, C3). -/
inductive ProbeWait where
  | bsyOnly
  | bsyClearReadySet
  deriving DecidableEq, Repr

/-- P_PROBE_REG: the register PROBE polls, 2 (sector count) or 7 (status) (R8, R143, C4). -/
inductive ProbeReg where
  | sectorCount
  | status
  deriving DecidableEq, Repr

/-- P_IRQ_WIDTH: the bytes read at configuration offset 0x3C (R8, R125). -/
inductive IrqWidth where
  | one
  | two
  | four
  deriving DecidableEq, Repr

/-- The width in bytes. -/
def IrqWidth.bytes : IrqWidth → Nat
  | .one => 1
  | .two => 2
  | .four => 4

/-- The two attach handlers (R3, R122). -/
inductive Handler where
  | legacy
  | native
  deriving DecidableEq, Repr

/-- One entry of P_ATTACH_TABLE (R8). -/
structure AttachEntry where
  vendor  : BitVec 16
  device  : BitVec 16
  handler : Handler
  deriving DecidableEq, Repr

/-- The parameters of R8: "The model takes each as an argument". They stand in `State.params` and no step changes them
(DESIGN CHOICE, log 4). -/
structure Params where
  warnInterval : Nat
  probeWait    : ProbeWait
  probeReg     : ProbeReg
  irqWidth     : IrqWidth
  attachTable  : List AttachEntry
  deriving DecidableEq, Repr

/-- The default values of R8. -/
def Params.default : Params where
  warnInterval := 10000000
  probeWait := .bsyOnly
  probeReg := .status
  irqWidth := .one
  attachTable := [⟨0x8086, 0x7000, .legacy⟩, ⟨0x8086, 0x3B20, .native⟩]

/-- The ranges of R8: a positive interval, and at most one handler for a (vendor, device) pair (a mapping, R122; log 19,
log 20). -/
def Params.wf (p : Params) : Bool :=
  decide (0 < p.warnInterval) &&
    decide ((p.attachTable.map fun e => (e.vendor, e.device)).Nodup)

namespace Config

/-- CFG_ADDR_PORT (R7). -/
def cfgAddrPort : Port := 0xCF8
/-- CFG_DATA_PORT (R7). -/
def cfgDataPort : Port := 0xCFC
/-- LEGACY_CMD_BASE (R7). -/
def legacyCmd : Port := 0x1F0
/-- LEGACY_CTL_BASE (R7). -/
def legacyCtl : Port := 0x3F6
/-- LEGACY_IRQ (R7). -/
def legacyIrq : Word := 14
/-- SECTOR_BYTES (R7). -/
def sectorBytes : Nat := 512
/-- SECTOR_WORDS (R7). -/
def sectorWords : Nat := 128
/-- P_PROBE_READS (R7). -/
def probeReads : Nat := 1000

/-- A FREE VALUE: the oracle's answer to a read of `n` bytes at a port after a trace, where the state lists no answer of
its own (R55: "It returns an n-byte value that may depend on the whole trace so far and on a free choice"). It has no
body, so nothing can be proved of it (log 2). -/
opaque freeAnswer : (trace : List Entry) → (port : Port) → (n : Nat) → Word

end Config

end Sys2Proof
end

