-- ==== Sys2Proof/WellFormed.lean ====
section
/-! DEFINITION. Which instructions the encoding admits: the checks of 30_encoding.md R83 (c), (d), (e) on the fields. The
checks (a) and (b) are on the header and stand in Decode. -/

namespace Sys2Proof

/-- `width ∈ {1, 2, 4}` (R83 (c)). -/
def widthOk (width : BitVec 3) : Bool := width == 1 || width == 2 || width == 4

/-- `tag & ~0x00FFFF00 = 0` (R83 (d), R104). -/
def tagOk (tag : Word) : Bool := tag &&& ~~~0x00FFFF00#32 == 0#32

/-- 512 bytes for a write START (R83 (e)), none for a read START (R84). -/
def payloadOk (writing : Bool) (payload : List Byte) : Bool :=
  payload.length == if writing then Config.sectorBytes else 0

/-- The well-formedness check of an instruction. -/
def Instr.wf : Instr → Bool
  | .cfgRead _ _ width => widthOk width
  | .cfgWrite _ _ _ => true
  | .tagMake _ _ _ => true
  | .tagSplit tag => tagOk tag
  | .barDecode _ => true
  | .attach _ _ _ => true
  | .start _ writing _ payload => payloadOk writing payload
  | .complete _ => true
  | .hasIntr => true
  | .clearIntr => true
  | .ataCmdRead => true
  | .ataCmdWrite => true

/-- The encoding admits the instruction (R83). -/
abbrev Instr.WellFormed (i : Instr) : Prop := i.wf = true

end Sys2Proof
end

