-- ==== Sys2Proof/Decode.lean ====
section
/-! DEFINITION. Decoding (30_encoding.md R70, R71, R83, R84) total on every header and payload, rejecting by name; the
encoder, written from the same table; and the reading of an opcode-table word. -/

namespace Sys2Proof

/-- Why a code is refused (R83, R208). -/
inductive DecodeError where
  /-- BAD_OPCODE: `op` is not one of the ten values of R71. -/
  | badOpcode
  /-- NONZERO_RESERVED: a must-be-zero bit is 1. -/
  | nonzeroReserved
  /-- BAD_WIDTH: a CFG_READ of a width other than 1, 2, 4. -/
  | badWidth
  /-- BAD_TAG: a TAG_SPLIT of a value with bits outside 23..8. -/
  | badTag
  /-- BAD_PAYLOAD: a write START without exactly 512 bytes, or bytes after any other request (log 15). -/
  | badPayload
  /-- A byte that is neither ATA command (R82). -/
  | unknownCommand
  deriving DecidableEq, Repr

/-- The field `h[lo + n - 1 : lo]` (R10). -/
def field (h : Header) (lo n : Nat) : BitVec n := h.extractLsb' lo n

/-- `op = H[7:0]` (R70). -/
def opOf (h : Header) : BitVec 8 := field h 0 8

/-- `H[9]`, the `writing` bit of START (R71). -/
def writingBit (h : Header) : Bool := h.getLsbD 9

/-- Op 0x20, which alone may carry a payload (R84). -/
def opStart : BitVec 8 := 0x20

/-- The checks every row shares: the must-be-zero bits, then the payload. The rank of the reasons is a DESIGN CHOICE
(log 10). -/
def checkRow (reservedZero payloadFits : Bool) (rest : Except DecodeError Instr) : Except DecodeError Instr :=
  if !reservedZero then .error .nonzeroReserved
  else if !payloadFits then .error .badPayload
  else rest

/-- CFG_READ (R71, R83 (c)). -/
def decodeCfgRead (r : Request) : Except DecodeError Instr :=
  checkRow (field r.header 35 29 == 0) r.payload.isEmpty
    (if widthOk (field r.header 32 3) then
      .ok (.cfgRead (field r.header 8 16) (field r.header 24 8) (field r.header 32 3))
    else .error .badWidth)

/-- CFG_WRITE (R71). -/
def decodeCfgWrite (r : Request) : Except DecodeError Instr :=
  checkRow true r.payload.isEmpty
    (.ok (.cfgWrite (field r.header 8 16) (field r.header 24 8) (field r.header 32 32)))

/-- TAG_MAKE (R71). -/
def decodeTagMake (r : Request) : Except DecodeError Instr :=
  checkRow (field r.header 24 40 == 0) r.payload.isEmpty
    (.ok (.tagMake (field r.header 8 8) (field r.header 16 5) (field r.header 21 3)))

/-- TAG_SPLIT (R71, R83 (d)). -/
def decodeTagSplit (r : Request) : Except DecodeError Instr :=
  checkRow (field r.header 40 24 == 0) r.payload.isEmpty
    (if tagOk (field r.header 8 32) then .ok (.tagSplit (field r.header 8 32)) else .error .badTag)

/-- BAR_DECODE (R71). -/
def decodeBarDecode (r : Request) : Except DecodeError Instr :=
  checkRow (field r.header 40 24 == 0) r.payload.isEmpty (.ok (.barDecode (field r.header 8 32)))

/-- ATTACH (R71). -/
def decodeAttach (r : Request) : Except DecodeError Instr :=
  checkRow (field r.header 56 8 == 0) r.payload.isEmpty
    (.ok (.attach (field r.header 8 16) (field r.header 24 16) (field r.header 40 16)))

/-- START (R71, R83 (e)). -/
def decodeStart (r : Request) : Except DecodeError Instr :=
  checkRow (field r.header 10 2 == 0 && field r.header 40 24 == 0) (payloadOk (writingBit r.header) r.payload)
    (.ok (.start (field r.header 8 1) (writingBit r.header) (field r.header 12 28) r.payload))

/-- COMPLETE (R71). -/
def decodeComplete (r : Request) : Except DecodeError Instr :=
  checkRow (field r.header 9 55 == 0) r.payload.isEmpty (.ok (.complete (r.header.getLsbD 8)))

/-- HAS_INTR (R71). -/
def decodeHasIntr (r : Request) : Except DecodeError Instr :=
  checkRow (field r.header 8 56 == 0) r.payload.isEmpty (.ok .hasIntr)

/-- CLEAR_INTR (R71). -/
def decodeClearIntr (r : Request) : Except DecodeError Instr :=
  checkRow (field r.header 8 56 == 0) r.payload.isEmpty (.ok .clearIntr)

/-- The decoder of requests: `op` selects the row of R71 (R70, R83 (a)). -/
def decodeRequest (r : Request) : Except DecodeError Instr :=
  if opOf r.header = 0x01 then decodeCfgRead r
  else if opOf r.header = 0x02 then decodeCfgWrite r
  else if opOf r.header = 0x03 then decodeTagMake r
  else if opOf r.header = 0x04 then decodeTagSplit r
  else if opOf r.header = 0x05 then decodeBarDecode r
  else if opOf r.header = 0x10 then decodeAttach r
  else if opOf r.header = opStart then decodeStart r
  else if opOf r.header = 0x21 then decodeComplete r
  else if opOf r.header = 0x30 then decodeHasIntr r
  else if opOf r.header = 0x31 then decodeClearIntr r
  else .error .badOpcode

/-- The command byte READ (R7, R82). -/
def cmdByteRead : Byte := 0x20

/-- The command byte WRITE (R7, R82). -/
def cmdByteWrite : Byte := 0x30

/-- The command byte START writes (R144). -/
def commandByte (writing : Bool) : Byte := if writing then cmdByteWrite else cmdByteRead

/-- The decoder of ATA command bytes (R82). -/
def decodeCommand (b : Byte) : Except DecodeError Instr :=
  if b = cmdByteRead then .ok .ataCmdRead
  else if b = cmdByteWrite then .ok .ataCmdWrite
  else .error .unknownCommand

/-- The decoder. -/
def decode : Code → Except DecodeError Instr
  | .request r => decodeRequest r
  | .command b => decodeCommand b

/-- A header alone (R84). -/
def headerOnly (h : Header) : Code := .request ⟨h, []⟩

/-- The value `v` in the header's bits from `lo` up. -/
def place {n : Nat} (v : BitVec n) (lo : Nat) : Header := v.setWidth 64 <<< lo

/-- The encoder: the op and the fields of R71, every other bit 0. -/
def encode : Instr → Code
  | .cfgRead tagf reg width => headerOnly (0x01#64 ||| place tagf 8 ||| place reg 24 ||| place width 32)
  | .cfgWrite tagf reg val => headerOnly (0x02#64 ||| place tagf 8 ||| place reg 24 ||| place val 32)
  | .tagMake bus dev fn => headerOnly (0x03#64 ||| place bus 8 ||| place dev 16 ||| place fn 21)
  | .tagSplit tag => headerOnly (0x04#64 ||| place tag 8)
  | .barDecode raw => headerOnly (0x05#64 ||| place raw 8)
  | .attach vendor device tagf =>
    headerOnly (0x10#64 ||| place vendor 8 ||| place device 24 ||| place tagf 40)
  | .start unit writing lba payload =>
    .request ⟨0x20#64 ||| place unit 8 ||| place (BitVec.ofBool writing) 9 ||| place lba 12, payload⟩
  | .complete writing => headerOnly (0x21#64 ||| place (BitVec.ofBool writing) 8)
  | .hasIntr => headerOnly 0x30
  | .clearIntr => headerOnly 0x31
  | .ataCmdRead => .command cmdByteRead
  | .ataCmdWrite => .command cmdByteWrite

/-- The request whose bits are `w`: the header in bits 63..0, and after a write START's header its 512 payload bytes in
the bits above, byte 0 lowest. -/
def requestOfNat (w : Nat) : Request :=
  let h : Header := BitVec.ofNat 64 w
  ⟨h, if opOf h = opStart && writingBit h then
        (List.range Config.sectorBytes).map fun i => BitVec.ofNat 8 (w >>> (64 + 8 * i))
      else []⟩

/-- The code whose bits are `w`, where the opcode table gives its row `nbits` bits: a word of at most 8 bits that is an
ATA command byte has format ATA_CMD8, every other word is a request with zeros above (log 22). -/
def codeOfTableWord (nbits w : Nat) : Code :=
  if nbits ≤ 8 ∧ (decodeCommand (BitVec.ofNat 8 w)).isOk then .command (BitVec.ofNat 8 w)
  else .request (requestOfNat w)

/-- The instruction the decoder reads from the opcode table's word. -/
def decodeTableWord (nbits w : Nat) : Option Instr := (decode (codeOfTableWord nbits w)).toOption

end Sys2Proof
end

