-- ==== Sys2Proof/Machine/State.lean ====
section
/-! DEFINITION. The state of the block (10_state.md R21 to R27, R34), plain data, and its value after reset
(70_reset_and_hazards.md R230). Also the reasons a step can stop. -/

namespace Sys2Proof.Machine

/-- The installed DiskDriver variant (R24). -/
inductive Variant where
  | none
  | legacy
  | native
  deriving DecidableEq, Repr

/-- The driver fields both variants have (R24). `irq` holds `8 × P_IRQ_WIDTH` bits, zero-extended (log 6). -/
structure Bases where
  cmd : Port
  ctl : Port
  irq : Word
  deriving DecidableEq, Repr

/-- The DiskDriver singleton: `variant`, `cmd`, `ctl`, `bm` and `irq` of R24. With NONE the bases hold nothing, and
`bm` has a value only with NATIVE: "A model must not give such a field a default number" (R24, log 5). -/
inductive Driver where
  | none
  | legacy (bases : Bases)
  | native (bases : Bases) (bm : Port)
  deriving DecidableEq, Repr

/-- The transfer session (R24, R146). -/
inductive Xfer where
  | idle
  | readPending
  | writePending
  deriving DecidableEq, Repr

/-- The status codes by name (60_exceptions.md R200). -/
inductive Status where
  | ok
  | alignmentError
  | unsupportedDevice
  | duplicateDevice
  | diskAbsent
  | diskMediaError
  | diskMediaFatal
  deriving DecidableEq, Repr

/-- The result latch (30_encoding.md R86). -/
structure Result where
  status : Status
  value  : Word
  data   : Option (List Byte)
  deriving DecidableEq, Repr

/-- The positions of a configuration read (R101): the address write, the data read, the closing write. -/
inductive CfgPhase where
  | address
  | data
  | close (v : Word)
  deriving DecidableEq, Repr

/-- The positions of a configuration write (R102). -/
inductive WritePhase where
  | address
  | data
  | close
  deriving DecidableEq, Repr

/-- The positions of a wait loop (R140, R143): a status read, or the diagnostic. -/
inductive WaitPhase where
  | read
  | diag
  deriving DecidableEq, Repr

/-- Which configuration read of the native handler runs, with what was read before (R125). -/
inductive NativeRead where
  | irq
  | bar0 (irq : Word)
  | bar1 (irq bar0 : Word)
  | bar4 (irq bar0 bar1 : Word)
  deriving DecidableEq, Repr

/-- The register writes of START before the command, in the source's order (R144). -/
inductive StartReg where
  | control
  | sectorCount
  | lbaLow
  | lbaMid
  | lbaHigh
  | driveHead
  deriving DecidableEq, Repr

/-- The position `k` inside a request's pseudocode: the next event, with the pseudocode's local variables (R22, log 8).
DESIGN CHOICE: a loop's exit test has no position of its own, but belongs to the event before it (log 26), as do the
state writes and the request's end that follow an event (log 27). -/
inductive Pos where
  /-- CFG_READ (R101). -/
  | cfgRead (p : CfgPhase)
  /-- CFG_WRITE (R102). -/
  | cfgWrite (p : WritePhase)
  /-- ATTACH, the native handler's reads (R125). -/
  | attachCfg (n : NativeRead) (p : CfgPhase)
  /-- ATTACH, PROBE step 1 (R143). -/
  | probeWait (p : WaitPhase)
  /-- ATTACH, PROBE step 2, read `i` (R143). -/
  | probePoll (i : Nat)
  /-- START, the wait (R144). -/
  | startWait (p : WaitPhase)
  /-- START, a register write. -/
  | startReg (r : StartReg)
  /-- START, the command write: here the block issues ATA_CMD_READ or ATA_CMD_WRITE (R82). -/
  | startCommand
  /-- START, DRQ_WAIT (R142). -/
  | startDrq
  /-- START, the write of data word `i` (R144). -/
  | startPush (i : Nat)
  /-- COMPLETE, the checked wait (R147). -/
  | completeWait (p : WaitPhase)
  /-- COMPLETE, a data read, with the words read before (R147). -/
  | completePull (got : List Word)
  /-- HAS_INTR, the busmaster read (R171). -/
  | hasIntrRead
  /-- CLEAR_INTR, status read 1 (R172). -/
  | clearStatus1
  /-- CLEAR_INTR, status read 2. -/
  | clearStatus2
  /-- CLEAR_INTR, the busmaster read. -/
  | clearBmRead
  /-- CLEAR_INTR, the busmaster write-back of the byte read. -/
  | clearBmWrite (b : Byte)
  /-- CLEAR_INTR, the end-of-interrupt call. -/
  | clearEoi
  deriving DecidableEq, Repr

/-- The sequencer position: IDLE, or RUN(req, k) with the latched request (R22). -/
inductive Seq where
  | idle
  | run (req : Instr) (k : Pos)
  deriving DecidableEq, Repr

/-- The state of the machine. `reqId`, `requests` and `answers` are the model's own fields (log 7, log 3, log 2). -/
structure State where
  /-- The parameters of R8, which no step changes. -/
  params   : Params
  /-- `variant`, `cmd`, `ctl`, `bm`, `irq` (R24). -/
  driver   : Driver
  /-- The probe found a responding disk (R24, R26). -/
  present  : Bool
  /-- The transfer session (R24, R146). -/
  xfer     : Xfer
  /-- A fatal error has occurred (R24, R206). -/
  halted   : Bool
  /-- The fatal error that set `halted` (R24, R27). -/
  fatal    : Option Status
  /-- The last value written to CFG_ADDR_PORT; `none` is the spec's "unknown" (R24, R31). -/
  cfgAddr  : Option Word
  /-- Failed status reads in the current wait (R24, R216). -/
  spin     : Nat
  /-- The sequencer position and the request latch (R21, R22). -/
  seq      : Seq
  /-- The event history, oldest first (R34). -/
  trace    : List Entry
  /-- The result latch; `none` is the spec's "no value" before the first request ends (R21, R230). -/
  result   : Option Result
  /-- The number of requests accepted, which is the id of the latest (R85). -/
  reqId    : Nat
  /-- The requests the host has yet to issue, oldest first (R20, R23). -/
  requests : List Request
  /-- The port-space oracle's answers to come; past its end `Config.freeAnswer` answers (R55). -/
  answers  : List Word
  deriving DecidableEq, Repr

/-- R24's field `variant`. -/
def Driver.variant : Driver → Variant
  | .none => .none
  | .legacy _ => .legacy
  | .native _ _ => .native

/-- The bases, where the driver holds any. -/
def Driver.bases : Driver → Option Bases
  | .none => Option.none
  | .legacy b => some b
  | .native b _ => some b

/-- R24's field `bm`. -/
def Driver.bm : Driver → Option Port
  | .none => Option.none
  | .legacy _ => Option.none
  | .native _ bm => some bm

/-- R24's field `variant`. -/
def State.variant (s : State) : Variant := s.driver.variant
/-- R24's field `cmd`. -/
def State.cmd (s : State) : Option Port := s.driver.bases.map Bases.cmd
/-- R24's field `ctl`. -/
def State.ctl (s : State) : Option Port := s.driver.bases.map Bases.ctl
/-- R24's field `bm`. -/
def State.bm (s : State) : Option Port := s.driver.bm
/-- R24's field `irq`. -/
def State.irq (s : State) : Option Word := s.driver.bases.map Bases.irq

/-- The reset state (R230, R231): idle, no driver, "no value" where the spec says so, the parameters at the defaults of
R8. The last three fields are the model's own (log 7, log 3, log 2: DESIGN CHOICE). -/
def State.reset : State where
  params   := Params.default
  driver   := .none
  present  := false
  xfer     := .idle
  halted   := false
  fatal    := none
  cfgAddr  := none
  spin     := 0
  seq      := .idle
  trace    := []
  result   := none
  reqId    := 0
  requests := []
  answers  := []

/-- Why the machine stops with a fault. -/
inductive Fault where
  /-- Raised by `step` and by every meaning in a halted state: the host is stuck and only reset helps (R23, R206). Safe:
  "A model must treat a halted state as a fault that is never final". -/
  | halted
  /-- Raised by a meaning at a sequencer position that is not one of its request's, or that the installed driver does
  not have. No run from reset reaches one (log 14). Safe. -/
  | strayPosition
  deriving DecidableEq, Repr

/-- Why a request has no meaning (60_exceptions.md R208). -/
inductive Refusal where
  /-- The instruction has no meaning in this model yet. Raised by no arm of `exec`. Safe. -/
  | notModelled (mnemonic : String)
  /-- BAD_OPCODE, raised by decoding (R83 (a)). Safe. -/
  | badOpcode
  /-- NONZERO_RESERVED, raised by decoding (R83 (b)). Safe. -/
  | nonzeroReserved
  /-- BAD_WIDTH, raised by decoding and by CFG_READ (R83 (c)). Safe. -/
  | badWidth
  /-- BAD_TAG, raised by decoding and by TAG_SPLIT (R83 (d), R104). Safe. -/
  | badTag
  /-- BAD_PAYLOAD, raised by decoding and by START (R83 (e)). Safe. -/
  | badPayload
  /-- NO_DRIVER, raised by START, COMPLETE, HAS_INTR, CLEAR_INTR and the command bytes (R149, R171, R172). Safe. -/
  | noDriver
  /-- NO_DISK, raised by START and COMPLETE (R149). Safe. -/
  | noDisk
  /-- SESSION, raised by START and COMPLETE (R146, R149). Safe. -/
  | session
  /-- Raised by ATA_CMD_READ and ATA_CMD_WRITE in an idle block: a device command is no request a host can issue (R82,
  R83 (a); log 13). Safe. -/
  | notARequest
  deriving DecidableEq, Repr

/-- What one step answers. -/
abbrev Out := Host.Outcome State Fault Refusal

/-- What the block runs next: nothing, a request it refuses, or an instruction in a state. -/
inductive Fetched where
  | waiting
  | rejected (r : Refusal)
  | run (i : Instr) (s : State)
  deriving DecidableEq, Repr

end Sys2Proof.Machine
end

