-- ==== Sys2Proof/Machine/Flags.lean ====
section
/-! DEFINITION. The flags the block reads: bits of the devices' status bytes (10_state.md R28, 30_encoding.md R80, R81). -/

namespace Sys2Proof.Machine

/-- Bit `i` of a status byte. -/
def statusBit (s : Byte) (i : Nat) : Bool := s.getLsbD i

/-- BUSY, 0x80 (R80). -/
def ataBusy (s : Byte) : Bool := statusBit s 7
/-- READY, 0x40 (R80). -/
def ataReady (s : Byte) : Bool := statusBit s 6
/-- DEVICE-FAULT, 0x20 (R80). -/
def ataDeviceFault (s : Byte) : Bool := statusBit s 5
/-- Data request (DRQ), 0x08 (R80). -/
def ataDrq (s : Byte) : Bool := statusBit s 3
/-- ERROR, 0x01 (R80). -/
def ataError (s : Byte) : Bool := statusBit s 0
/-- Busmaster interrupt pending, bit 2 (R81). -/
def bmPending (b : Byte) : Bool := statusBit b 2
/-- Busmaster transfer error, bit 1 (R81). -/
def bmError (b : Byte) : Bool := statusBit b 1

/-- WAIT's exit test: BUSY clear and READY set (R140). -/
def waitDone (s : Byte) : Bool := !ataBusy s && ataReady s

/-- The exit test of PROBE's first step (R143). -/
def probeWaitDone : ProbeWait → Byte → Bool
  | .bsyOnly, s => !ataBusy s
  | .bsyClearReadySet, s => waitDone s

/-- WAIT's `ok` with error check: neither ERROR nor DEVICE-FAULT (R140). -/
def checkedOk (s : Byte) : Bool := !(ataError s || ataDeviceFault s)

/-- PROBE's reading of one poll: 0xFF is a floating bus, any other nonzero value a disk, 0 decides nothing (R143). -/
def probeVerdict (r : Byte) : Option Bool :=
  if r = 0xFF then some false else if r = 0 then none else some true

/-- The numeric status code (60_exceptions.md R200). -/
def Status.code : Status → Byte
  | .ok => 0
  | .alignmentError => 1
  | .unsupportedDevice => 2
  | .duplicateDevice => 3
  | .diskAbsent => 4
  | .diskMediaError => 5
  | .diskMediaFatal => 6

/-- The column "fatal" (R200). -/
def Status.isFatal : Status → Bool
  | .duplicateDevice => true
  | .diskMediaFatal => true
  | .ok => false
  | .alignmentError => false
  | .unsupportedDevice => false
  | .diskAbsent => false
  | .diskMediaError => false

end Sys2Proof.Machine
end

