-- ==== Sys2Proof/Machine/Operands.lean ====
section
/-! DEFINITION. Operand forms and bit layouts: PciTag, address word, byte selection, BAR, drive/head, LBA bytes and sector
words (30_encoding.md R72 to R77, 40_config_space.md R100, 41_attach_mux.md R120, 20_memory.md R56, R57). -/

namespace Sys2Proof.Machine

/-- Tag recovery: `zext_32(tagf) << 8` (R100). -/
def tagOfField (tagf : BitVec 16) : Word := tagf.setWidth 32 <<< 8

/-- The PciTag of bus, device and function (R72, R103). -/
def makeTag (bus : BitVec 8) (dev : BitVec 5) (fn : BitVec 3) : Word :=
  (bus.setWidth 32 <<< 16) ||| (dev.setWidth 32 <<< 11) ||| (fn.setWidth 32 <<< 8)

/-- The fields of a PciTag, one a byte: bus, device, function from the lowest (R104). -/
def splitTag (tag : Word) : Word :=
  (tag.extractLsb' 16 8).setWidth 32 ||| ((tag.extractLsb' 11 5).setWidth 32 <<< 8)
    ||| ((tag.extractLsb' 8 3).setWidth 32 <<< 16)

/-- `cfg_addr_word(tag, reg)` (R73). -/
def cfgAddrWord (tag : Word) (reg : BitVec 8) : Word :=
  0x80000000#32 ||| tag ||| (reg &&& 0xFC#8).setWidth 32

/-- `reg mod 4`. -/
def regOffset (reg : BitVec 8) : Nat := reg.toNat % 4

/-- `mask(n)`: the all-ones value of `n` bytes (R10), for `n` at most 4. -/
def byteMask (n : Nat) : Word := BitVec.ofNat 32 (2 ^ (8 * n) - 1)

/-- The result of a configuration read: `(v >> 8·(reg mod 4)) & mask(width)` (R101, R56). -/
def cfgExtract (v : Word) (reg : BitVec 8) (width : Nat) : Word :=
  (v >>> (8 * regOffset reg)) &&& byteMask width

/-- `bar_decode(raw)`: the low 3 bits cleared, 16 bits kept (R120). -/
def barDecode (raw : Word) : Port := (raw &&& ~~~7#32).setWidth 16

/-- The drive/head byte `0xE0 | (unit << 4) | lba[27:24]` (R74). -/
def driveHeadByte (unit : BitVec 1) (lba : BitVec 28) : Byte :=
  0xE0#8 ||| (unit.setWidth 8 <<< 4) ||| (lba.extractLsb' 24 4).setWidth 8

/-- LBA byte `n`: bits `8n+7..8n` (R75). -/
def lbaByte (lba : BitVec 28) (n : Nat) : Byte := lba.extractLsb' (8 * n) 8

/-- Sector word `i`: payload bytes `4i..4i+3`, byte `4i` in bits 7..0 (R57). -/
def sectorWord (payload : List Byte) (i : Nat) : Word :=
  payload.getD (4 * i + 3) 0 ++ payload.getD (4 * i + 2) 0 ++ payload.getD (4 * i + 1) 0 ++ payload.getD (4 * i) 0

/-- The four bytes of a sector word, lowest first (R57, R147). -/
def wordBytes (w : Word) : List Byte :=
  [w.extractLsb' 0 8, w.extractLsb' 8 8, w.extractLsb' 16 8, w.extractLsb' 24 8]

/-- The bytes of a list of sector words (R57, R147). -/
def sectorBytesOf (ws : List Word) : List Byte := ws.flatMap wordBytes

/-- The configuration offset each read of the native handler uses (R77, R125). -/
def NativeRead.reg : NativeRead → BitVec 8
  | .irq => 0x3C
  | .bar0 _ => 0x10
  | .bar1 _ _ => 0x14
  | .bar4 _ _ _ => 0x20

/-- The width in bytes of each read of the native handler (R125). -/
def NativeRead.width (p : Params) : NativeRead → Nat
  | .irq => p.irqWidth.bytes
  | .bar0 _ => 4
  | .bar1 _ _ => 4
  | .bar4 _ _ _ => 4

/-- The exact lookup in P_ATTACH_TABLE (R122). -/
def lookupHandler (table : List AttachEntry) (vendor device : BitVec 16) : Option Handler :=
  (table.find? fun e => e.vendor == vendor && e.device == device).map AttachEntry.handler

/-- Task-file register `cmd + n`, modulo 2^16 (R54, R78). -/
def taskReg (b : Bases) (n : Nat) : Port := b.cmd + BitVec.ofNat 16 n

/-- The busmaster status register `bm + 0x02` (R54, R7). -/
def bmStatusPort (bm : Port) : Port := bm + 0x02

/-- The register PROBE polls (R143). -/
def probeOffset : ProbeReg → Nat
  | .sectorCount => 2
  | .status => 7

end Sys2Proof.Machine
end

