-- ==== Sys2Proof/Machine/Ops.lean ====
section
/-! DEFINITION. The shared operations: field updates, port reads and writes (00_scope.md R11), the end of a request by
`return` or `raise` (60_exceptions.md R206, R210), accepting a request (10_state.md R23), and the wait loop (R140). -/

namespace Sys2Proof.Machine

namespace State

/-- Appends an event, tagged with the request that emits it (R34, R85). -/
def emit (s : State) (e : Event) : State := { s with trace := s.trace ++ [⟨s.reqId, e⟩] }
/-- Writes `seq`. -/
def setSeq (s : State) (q : Seq) : State := { s with seq := q }
/-- Writes `cfg_addr`. -/
def setCfgAddr (s : State) (a : Word) : State := { s with cfgAddr := some a }
/-- Writes `spin`. -/
def setSpin (s : State) (n : Nat) : State := { s with spin := n }
/-- Writes the driver fields `variant`, `cmd`, `ctl`, `bm`, `irq`. -/
def setDriver (s : State) (d : Driver) : State := { s with driver := d }
/-- Writes `present`. -/
def setPresent (s : State) (b : Bool) : State := { s with present := b }
/-- Writes `xfer`. -/
def setXfer (s : State) (x : Xfer) : State := { s with xfer := x }
/-- Writes the result latch. -/
def setResult (s : State) (r : Result) : State := { s with result := some r }
/-- Writes `halted` and `fatal` (R206). -/
def setFatal (s : State) (e : Status) : State := { s with halted := true, fatal := some e }
/-- Takes the next request id. -/
def nextId (s : State) : State := { s with reqId := s.reqId + 1 }
/-- Writes what the host has yet to issue. -/
def setRequests (s : State) (rs : List Request) : State := { s with requests := rs }
/-- Moves to the oracle's next answer. -/
def dropAnswer (s : State) : State := { s with answers := s.answers.tail }

/-- The oracle's answer to a read of `n` bytes at `port` in this state (R55). -/
def answer (s : State) (port : Port) (n : Nat) : Word :=
  s.answers.headD (Config.freeAnswer s.trace port n)

/-- The byte `PortIn(port, 1)` returns. -/
def in1 (s : State) (port : Port) : Byte := (s.answer port 1).setWidth 8
/-- The word `PortIn(port, 4)` returns. -/
def in4 (s : State) (port : Port) : Word := s.answer port 4
/-- The state after `PortIn(port, 1)`. -/
def afterIn1 (s : State) (port : Port) : State := (s.emit (.in1 port (s.in1 port))).dropAnswer
/-- The state after `PortIn(port, 4)`. -/
def afterIn4 (s : State) (port : Port) : State := (s.emit (.in4 port (s.in4 port))).dropAnswer

end State

/-- Goes to position `k` of request `i` (R22). -/
def goto (i : Instr) (k : Pos) (s : State) : Out := .next (s.setSeq (.run i k))

/-- `return v`, with the data of a COMPLETE read where there is any (R11, R86). -/
def finish (v : Word) (data : Option (List Byte)) (s : State) : Out :=
  .next ((s.setResult ⟨.ok, v, data⟩).setSeq .idle)

/-- `raise e(v)`: status and value go to the result latch, the sequencer to IDLE, and a fatal error halts the block;
nothing before it is undone (R206, R210). -/
def raise (e : Status) (v : Word) (s : State) : Out :=
  .next (if e.isFatal then ((s.setResult ⟨e, v, none⟩).setSeq .idle).setFatal e
    else (s.setResult ⟨e, v, none⟩).setSeq .idle)

/-- One step on behalf of request `i`. A halted block accepts nothing (R23, R206). A block running another request
holds this one, with no effect (R23, log 12). A block running it takes its next step, `go`. An idle block first checks for
refusal (R209), then accepts it and runs it up to its first event, `start` (log 1). -/
def onRequest (i : Instr) (check : State → Option Refusal) (start : State → Out) (go : Pos → State → Out)
    (s : State) : Out :=
  if s.halted then .fault .halted
  else match s.seq with
    | .run j k => if j = i then go k s else .next s
    | .idle =>
      match check s with
      | some r => .refused r
      | none => start s.nextId

/-- No refusal. -/
def noCheck (_ : State) : Option Refusal := none

/-- A request that emits no event has no position to go on from (log 14). -/
def noPosition (_ : Pos) (_ : State) : Out := .fault .strayPosition

/-- Runs `f` on the installed driver's bases; with no driver there is no base (R149 (a)). -/
def withBases (f : Bases → Out) (s : State) : Out :=
  match s.driver.bases with
  | some b => f b
  | none => .refused .noDriver

/-- Runs `f` on the native driver's bases and busmaster base (R170). -/
def withNative (f : Bases → Port → Out) (s : State) : Out :=
  match s.driver with
  | .native b bm => f b bm
  | .legacy _ => .fault .strayPosition
  | .none => .refused .noDriver

/-- Writes the configuration address port and the record of it (R31, R101). -/
def openConfig (a : Word) (s : State) : State := (s.emit (.out4 Config.cfgAddrPort a)).setCfgAddr a

/-- Closes the configuration address port (R101, R241). -/
def closeConfig (s : State) : State := openConfig 0 s

/-- One event of a configuration read of request `i` (R101): `at_` names the positions, `done` goes on with the word
read, after the closing write. -/
def configRead (i : Instr) (tag : Word) (reg : BitVec 8) (at_ : CfgPhase → Pos) (done : Word → State → Out)
    (p : CfgPhase) (s : State) : Out :=
  match p with
  | .address => goto i (at_ .data) (openConfig (cfgAddrWord tag reg) s)
  | .data => goto i (at_ (.close (s.in4 Config.cfgDataPort))) (s.afterIn4 Config.cfgDataPort)
  | .close v => done v (closeConfig s)

/-- The position after a failed read that makes the count `n`: the diagnostic after every P_WARN_INTERVAL-th (R140). -/
def afterFailed (interval n : Nat) : WaitPhase := if n % interval = 0 then .diag else .read

/-- One event of a status wait of request `i` at base `b` (R140, R143): `done` is the exit test, `exit` goes on with the
status byte that ended the wait. DESIGN CHOICE: the test is part of the read's step, no position of its own (R22,
log 26). -/
def statusWait (i : Instr) (b : Bases) (at_ : WaitPhase → Pos) (done : Byte → Bool) (exit : Byte → State → Out)
    (p : WaitPhase) (s : State) : Out :=
  match p with
  | .read =>
    if done (s.in1 (taskReg b 7)) then exit (s.in1 (taskReg b 7)) (s.afterIn1 (taskReg b 7))
    else goto i (at_ (afterFailed s.params.warnInterval (s.spin + 1)))
      ((s.afterIn1 (taskReg b 7)).setSpin (s.spin + 1))
  | .diag => goto i (at_ .read) (s.emit (.diag b.cmd))

/-- The refusal of a code the decoder rejects (R83, R208). -/
def refusalOf : DecodeError → Refusal
  | .badOpcode => .badOpcode
  | .nonzeroReserved => .nonzeroReserved
  | .badWidth => .badWidth
  | .badTag => .badTag
  | .badPayload => .badPayload
  | .unknownCommand => .badOpcode

/-- A refusal unless the condition holds. -/
def refuseUnless (c : Bool) (r : Refusal) (rest : Option Refusal) : Option Refusal := if c then rest else some r

end Sys2Proof.Machine
end

