-- ==== Sys2Proof/Machine/Ata.lean ====
section
/-! DEFINITION. The ATA task-file engine (42_ata_engine.md): START, COMPLETE, and the two device commands START issues. -/

namespace Sys2Proof.Machine

/-- What START and COMPLETE need: a driver and a disk (R149 (a), (b)), then the session (R149 (c)). The rank is a DESIGN
CHOICE (log 10). -/
def ataCheck (session : Xfer) (s : State) : Option Refusal :=
  refuseUnless (s.driver ≠ .none) .noDriver
    (refuseUnless s.present .noDisk (refuseUnless (s.xfer = session) .session none))

/-- The event of a register write of START (R144, R74, R75, R79). -/
def StartReg.event (b : Bases) (unit : BitVec 1) (lba : BitVec 28) : StartReg → Event
  | .control => .out1 b.ctl 0x00
  | .sectorCount => .out1 (taskReg b 2) 0x01
  | .lbaLow => .out1 (taskReg b 3) (lbaByte lba 0)
  | .lbaMid => .out1 (taskReg b 4) (lbaByte lba 1)
  | .lbaHigh => .out1 (taskReg b 5) (lbaByte lba 2)
  | .driveHead => .out1 (taskReg b 6) (driveHeadByte unit lba)

/-- The position after a register write of START (R144). -/
def StartReg.next : StartReg → Pos
  | .control => .startReg .sectorCount
  | .sectorCount => .startReg .lbaLow
  | .lbaLow => .startReg .lbaMid
  | .lbaMid => .startReg .lbaHigh
  | .lbaHigh => .startReg .driveHead
  | .driveHead => .startCommand

/-- The command write of request `i`, and what follows it: a read START returns at once, a write START goes on to
DRQ_WAIT (R82, R144, R145). -/
def issueCommand (i : Instr) (writing : Bool) (s : State) : Out :=
  withBases (fun b =>
    let t := s.emit (.out1 (taskReg b 7) (commandByte writing))
    if writing then goto i .startDrq t else finish 0 none (t.setXfer .readPending)) s

/-- After data word `n` was written (R144). The loop's test is part of the write's step (log 26). -/
def afterPush (i : Instr) (n : Nat) (s : State) : Out :=
  if n + 1 < Config.sectorWords then goto i (.startPush (n + 1)) s else finish 0 none (s.setXfer .writePending)

/-- START's next event (R144). DRQ_WAIT's test is part of the read's step (log 26). -/
def startGo (unit : BitVec 1) (writing : Bool) (lba : BitVec 28) (payload : List Byte) (k : Pos) (s : State) : Out :=
  let i := Instr.start unit writing lba payload
  withBases (fun b =>
    match k with
    | .startWait p => statusWait i b .startWait waitDone (fun _ => goto i (.startReg .control)) p s
    | .startReg r => goto i r.next (s.emit (r.event b unit lba))
    | .startCommand => issueCommand i writing s
    | .startDrq =>
      goto i (if ataDrq (s.in1 (taskReg b 7)) then .startPush 0 else .startDrq) (s.afterIn1 (taskReg b 7))
    | .startPush n => afterPush i n (s.emit (.out4 (taskReg b 0) (sectorWord payload n)))
    | _ => .fault .strayPosition) s

/-- START (R144): the unchecked wait, six register writes, the command; a write START then waits for data request and
pushes the sector (R145). -/
def execStart (unit : BitVec 1) (writing : Bool) (lba : BitVec 28) (payload : List Byte) (s : State) : Out :=
  onRequest (.start unit writing lba payload)
    (fun s => refuseUnless (payloadOk writing payload) .badPayload (ataCheck .idle s))
    (fun s => startGo unit writing lba payload (.startWait .read) (s.setSpin 0))
    (startGo unit writing lba payload) s

/-- One of the block's device commands (R82): the command write of the START that stands at it. Elsewhere in a running
request it is held, and in an idle block refused, since no host request stands for it (log 13). -/
def deviceCommand (writing : Bool) (s : State) : Out :=
  if s.halted then .fault .halted
  else match s.seq with
    | .run (.start unit w lba payload) .startCommand =>
      if w = writing then issueCommand (.start unit w lba payload) w s else .next s
    | .run _ _ => .next s
    | .idle => .refused .notARequest

/-- ATA_CMD_READ (R82, R144): `OUT(cmd + 7, 1, 0x20)`. -/
def execAtaCmdRead (s : State) : Out := deviceCommand false s

/-- ATA_CMD_WRITE (R82, R144): `OUT(cmd + 7, 1, 0x30)`. -/
def execAtaCmdWrite (s : State) : Out := deviceCommand true s

/-- The session a COMPLETE needs (R147). -/
def sessionOf (writing : Bool) : Xfer := if writing then .writePending else .readPending

/-- After COMPLETE's checked wait ended on status `st` (R147). -/
def afterCheckedWait (i : Instr) (st : Byte) (s : State) : Out :=
  if checkedOk st then goto i (.completePull []) s else raise .diskMediaError 0 (s.setXfer .idle)

/-- After COMPLETE read the words `got` (R147): the next word, or the end with the sector's bytes. The loop's
test is part of the read's step (log 26). -/
def afterPull (i : Instr) (got : List Word) (s : State) : Out :=
  if got.length < Config.sectorWords then goto i (.completePull got) s
  else finish 0 (some (sectorBytesOf got)) (s.setXfer .idle)

/-- COMPLETE's next event (R147). -/
def completeGo (writing : Bool) (k : Pos) (s : State) : Out :=
  withBases (fun b =>
    match k with
    | .completeWait p =>
      statusWait (.complete writing) b .completeWait waitDone (afterCheckedWait (.complete writing)) p s
    | .completePull got =>
      afterPull (.complete writing) (got ++ [s.in4 (taskReg b 0)]) (s.afterIn4 (taskReg b 0))
    | _ => .fault .strayPosition) s

/-- COMPLETE (R147): nothing but the session's end for a write; for a read the checked wait and 128 data reads. -/
def execComplete (writing : Bool) (s : State) : Out :=
  onRequest (.complete writing) (ataCheck (sessionOf writing))
    (fun s =>
      if writing then finish 0 none (s.setXfer .idle)
      else completeGo writing (.completeWait .read) (s.setSpin 0))
    (completeGo writing) s

end Sys2Proof.Machine
end

