-- ==== Sys2Proof/Machine/Attach.lean ====
section
/-! DEFINITION. The attach handlers and the base-address mux (41_attach_mux.md): BAR_DECODE, ATTACH; and PROBE
(42_ata_engine.md R143), which only ATTACH runs. -/

namespace Sys2Proof.Machine

/-- BAR_DECODE (R120, R121). -/
def execBarDecode (raw : Word) (s : State) : Out :=
  onRequest (.barDecode raw) noCheck (finish ((barDecode raw).setWidth 32) none) noPosition s

/-- ATTACH's value: 1 for LEGACY, 2 for NATIVE (R124, R125, R200). -/
def Driver.attachValue : Driver → Word
  | .none => 0
  | .legacy _ => 1
  | .native _ _ => 2

/-- PROBE's verdict ends ATTACH (R124, R125): `present` is written; an absent disk raises DiskAbsent, and the driver
stays installed (R204). -/
def endProbe (present : Bool) (s : State) : Out :=
  if present then finish s.driver.attachValue none (s.setPresent true)
  else raise .diskAbsent s.driver.attachValue (s.setPresent false)

/-- After poll `n` of PROBE read `r` (R143): at most P_PROBE_READS polls. The tests are part of the poll's step
(log 26). -/
def afterPoll (i : Instr) (n : Nat) (r : Byte) (s : State) : Out :=
  match probeVerdict r with
  | some present => endProbe present s
  | none => if n + 1 < Config.probeReads then goto i (.probePoll (n + 1)) s else endProbe false s

/-- PROBE's next event in request `i` (R143). -/
def probeGo (i : Instr) (k : Pos) (s : State) : Out :=
  withBases (fun b =>
    match k with
    | .probeWait p =>
      statusWait i b .probeWait (probeWaitDone s.params.probeWait) (fun _ => goto i (.probePoll 0)) p s
    | .probePoll n =>
      afterPoll i n (s.in1 (taskReg b (probeOffset s.params.probeReg))) (s.afterIn1 (taskReg b (probeOffset s.params.probeReg)))
    | _ => .fault .strayPosition) s

/-- The LEGACY driver of R124. -/
def legacyDriver : Driver := .legacy ⟨Config.legacyCmd, Config.legacyCtl, Config.legacyIrq⟩

/-- The NATIVE driver of R125, from the values read. -/
def nativeDriver (irq bar0 bar1 bar4 : Word) : Driver :=
  .native ⟨barDecode bar0, barDecode bar1, irq⟩ (barDecode bar4)

/-- After one of the native handler's reads gave `x` (R125): the next read, or the installation, with the wait of PROBE
next. DESIGN CHOICE: the installation and PROBE's `spin <- 0` are part of the step of BAR4's closing write (log 27). -/
def afterNativeRead (i : Instr) (n : NativeRead) (x : Word) (s : State) : Out :=
  match n with
  | .irq => goto i (.attachCfg (.bar0 x) .address) s
  | .bar0 q => goto i (.attachCfg (.bar1 q x) .address) s
  | .bar1 q b0 => goto i (.attachCfg (.bar4 q b0 x) .address) s
  | .bar4 q b0 b1 => goto i (.probeWait .read) ((s.setDriver (nativeDriver q b0 b1 x)).setSpin 0)

/-- ATTACH's next event (R124, R125). -/
def attachGo (vendor device tagf : BitVec 16) (k : Pos) (s : State) : Out :=
  match k with
  | .attachCfg n p =>
    configRead (.attach vendor device tagf) (tagOfField tagf) n.reg (.attachCfg n)
      (fun v s => afterNativeRead (.attach vendor device tagf) n (cfgExtract v n.reg (n.width s.params)) s) p s
  | k => probeGo (.attach vendor device tagf) k s

/-- The handler of a registry hit (R124, R125). -/
def runHandler (vendor device tagf : BitVec 16) (h : Handler) (s : State) : Out :=
  match h with
  | .legacy => attachGo vendor device tagf (.probeWait .read) ((s.setDriver legacyDriver).setSpin 0)
  | .native => attachGo vendor device tagf (.attachCfg .irq .address) s

/-- ATTACH's lookup and duplicate check (R122, R123), before any event. -/
def attachStart (vendor device tagf : BitVec 16) (s : State) : Out :=
  match lookupHandler s.params.attachTable vendor device with
  | none => raise .unsupportedDevice 0 s
  | some h => if s.driver ≠ .none then raise .duplicateDevice 0 s else runHandler vendor device tagf h s

/-- ATTACH (R122). -/
def execAttach (vendor device tagf : BitVec 16) (s : State) : Out :=
  onRequest (.attach vendor device tagf) noCheck (attachStart vendor device tagf) (attachGo vendor device tagf) s

end Sys2Proof.Machine
end

