-- ==== Sys2Proof/Machine/ConfigSpace.lean ====
section
/-! DEFINITION. The configuration-space accessor (40_config_space.md): CFG_READ, CFG_WRITE, TAG_MAKE, TAG_SPLIT. -/

namespace Sys2Proof.Machine

/-- CFG_READ's next event (R101). -/
def cfgReadGo (tagf : BitVec 16) (reg : BitVec 8) (width : BitVec 3) (k : Pos) (s : State) : Out :=
  match k with
  | .cfgRead p =>
    configRead (.cfgRead tagf reg width) (tagOfField tagf) reg .cfgRead
      (fun v => finish (cfgExtract v reg width.toNat) none) p s
  | _ => .fault .strayPosition

/-- CFG_READ (R101): the address write, the data read, the closing write; the word shifted and masked. -/
def execCfgRead (tagf : BitVec 16) (reg : BitVec 8) (width : BitVec 3) (s : State) : Out :=
  onRequest (.cfgRead tagf reg width) (fun _ => refuseUnless (widthOk width) .badWidth none)
    (cfgReadGo tagf reg width (.cfgRead .address)) (cfgReadGo tagf reg width) s

/-- CFG_WRITE's next event (R102). -/
def cfgWriteGo (tagf : BitVec 16) (reg : BitVec 8) (val : Word) (k : Pos) (s : State) : Out :=
  match k with
  | .cfgWrite .address =>
    goto (.cfgWrite tagf reg val) (.cfgWrite .data) (openConfig (cfgAddrWord (tagOfField tagf) reg) s)
  | .cfgWrite .data =>
    goto (.cfgWrite tagf reg val) (.cfgWrite .close) (s.emit (.out4 Config.cfgDataPort val))
  | .cfgWrite .close => finish 0 none (closeConfig s)
  | _ => .fault .strayPosition

/-- CFG_WRITE (R102): AlignmentError before any event when `reg mod 4 ≠ 0` (R201); else the address write, the data
write, the closing write. -/
def execCfgWrite (tagf : BitVec 16) (reg : BitVec 8) (val : Word) (s : State) : Out :=
  onRequest (.cfgWrite tagf reg val) noCheck
    (fun s =>
      if regOffset reg ≠ 0 then raise .alignmentError 0 s
      else cfgWriteGo tagf reg val (.cfgWrite .address) s)
    (cfgWriteGo tagf reg val) s

/-- TAG_MAKE (R103). -/
def execTagMake (bus : BitVec 8) (dev : BitVec 5) (fn : BitVec 3) (s : State) : Out :=
  onRequest (.tagMake bus dev fn) noCheck (finish (makeTag bus dev fn) none) noPosition s

/-- TAG_SPLIT (R104): refused on a value that is no PciTag. -/
def execTagSplit (tag : Word) (s : State) : Out :=
  onRequest (.tagSplit tag) (fun _ => refuseUnless (tagOk tag) .badTag none) (finish (splitTag tag) none) noPosition s

end Sys2Proof.Machine
end

