-- ==== Sys2Proof/Machine/Interrupt.lean ====
section
/-! DEFINITION. The interrupt mux (43_interrupt_mux.md): HAS_INTR, CLEAR_INTR. -/

namespace Sys2Proof.Machine

/-- What HAS_INTR and CLEAR_INTR need: a driver (R171, R172). -/
def driverCheck (s : State) : Option Refusal := refuseUnless (s.driver ≠ .none) .noDriver none

/-- HAS_INTR's busmaster read, NATIVE only (R171). -/
def hasIntrGo (k : Pos) (s : State) : Out :=
  withNative (fun _ bm =>
    match k with
    | .hasIntrRead =>
      finish (if bmPending (s.in1 (bmStatusPort bm)) then 1 else 0) none (s.afterIn1 (bmStatusPort bm))
    | _ => .fault .strayPosition) s

/-- HAS_INTR (R171): LEGACY answers 1 with no event, NATIVE the busmaster's bit 2. -/
def execHasIntr (s : State) : Out :=
  onRequest .hasIntr driverCheck
    (fun s => if s.variant = .legacy then finish 1 none s else hasIntrGo .hasIntrRead s) hasIntrGo s

/-- The position after CLEAR_INTR's second status read (R172). -/
def afterStatusReads (d : Driver) : Pos := if d.variant = .native then .clearBmRead else .clearEoi

/-- The IRQ CLEAR_INTR passes to EOI: 14 for LEGACY, the derived one for NATIVE (R172, R126). -/
def eoiIrq (d : Driver) : Word :=
  match d with
  | .native b _ => b.irq
  | .legacy _ => Config.legacyIrq
  | .none => Config.legacyIrq

/-- CLEAR_INTR's next event (R172, R173, R174). -/
def clearIntrGo (k : Pos) (s : State) : Out :=
  match k with
  | .clearStatus1 => withBases (fun b => goto .clearIntr .clearStatus2 (s.afterIn1 (taskReg b 7))) s
  | .clearStatus2 => withBases (fun b => goto .clearIntr (afterStatusReads s.driver) (s.afterIn1 (taskReg b 7))) s
  | .clearBmRead =>
    withNative (fun _ bm =>
      let b := s.in1 (bmStatusPort bm)
      if bmError b then raise .diskMediaFatal (b.setWidth 32) (s.afterIn1 (bmStatusPort bm))
      else goto .clearIntr (.clearBmWrite b) (s.afterIn1 (bmStatusPort bm))) s
  | .clearBmWrite b =>
    withNative (fun _ bm => goto .clearIntr .clearEoi (s.emit (.out1 (bmStatusPort bm) b))) s
  | .clearEoi => withBases (fun _ => finish 0 none (s.emit (.eoi (eoiIrq s.driver)))) s
  | _ => .fault .strayPosition

/-- CLEAR_INTR (R172): two status reads; NATIVE then checks the busmaster status, fails fatally on a transfer error, and
otherwise writes the byte back; last the end-of-interrupt call. -/
def execClearIntr (s : State) : Out :=
  onRequest .clearIntr driverCheck (clearIntrGo .clearStatus1) clearIntrGo s

end Sys2Proof.Machine
end

