-- ==== Sys2Proof/Machine/Dispatch.lean ====
section
/-! DEFINITION. The dispatch: one arm per instruction, each one call of its meaning. -/

namespace Sys2Proof.Machine

/-- One step of the block on behalf of the instruction (R22, R23). -/
def exec (i : Instr) (s : State) : Host.Outcome State Fault Refusal :=
  match i with
  | .cfgRead tagf reg width => Sys2Proof.Machine.execCfgRead tagf reg width s
  | .cfgWrite tagf reg val => Sys2Proof.Machine.execCfgWrite tagf reg val s
  | .tagMake bus dev fn => Sys2Proof.Machine.execTagMake bus dev fn s
  | .tagSplit tag => Sys2Proof.Machine.execTagSplit tag s
  | .barDecode raw => Sys2Proof.Machine.execBarDecode raw s
  | .attach vendor device tagf => Sys2Proof.Machine.execAttach vendor device tagf s
  | .start unit writing lba payload => Sys2Proof.Machine.execStart unit writing lba payload s
  | .complete writing => Sys2Proof.Machine.execComplete writing s
  | .hasIntr => Sys2Proof.Machine.execHasIntr s
  | .clearIntr => Sys2Proof.Machine.execClearIntr s
  | .ataCmdRead => Sys2Proof.Machine.execAtaCmdRead s
  | .ataCmdWrite => Sys2Proof.Machine.execAtaCmdWrite s

end Sys2Proof.Machine
end

