-- ==== Sys2Proof/Machine/Fetch.lean ====
section
/-! DEFINITION. What the block runs next: the running request, or the host's next one (10_state.md R22, R23). The block
fetches no program (20_memory.md R62); the host's requests stand in State (log 3). -/

namespace Sys2Proof.Machine

/-- What the block runs at position `k` of request `i`: at START's command position the ATA command of R82, everywhere
else the request itself (log 13). -/
def runningInstr (i : Instr) (k : Pos) : Instr :=
  match k, i with
  | .startCommand, .start _ writing _ _ => if writing then .ataCmdWrite else .ataCmdRead
  | _, i => i

/-- The next thing to run. -/
def fetch (s : State) : Fetched :=
  match s.seq with
  | .run i k => .run (runningInstr i k) s
  | .idle =>
    match s.requests with
    | [] => .waiting
    | r :: rs =>
      match decode (.request r) with
      | .ok i => .run i (s.setRequests rs)
      | .error e => .rejected (refusalOf e)

/-- A driver for an ATA command to run on: the one installed, else the LEGACY one of R124. -/
def driverForCommand : Driver → Driver
  | .none => .legacy ⟨Config.legacyCmd, Config.legacyCtl, Config.legacyIrq⟩
  | .legacy b => .legacy b
  | .native b bm => .native b bm

/-- The state in which the code is what runs next. A request is put before those the host offers. A command byte runs
inside a START, so the block is put at the command position of one (unit 0, LBA 0, payload zeros), with a driver and a
disk present, as a START that reached it would have (log 3, log 22). -/
def placeCode (s : State) : Code → State
  | .request r => { s with seq := .idle, requests := r :: s.requests }
  | .command b =>
    let writing := decide (b = cmdByteWrite)
    { s with
      seq := .run (.start 0 writing 0 (if writing then List.replicate Config.sectorBytes 0 else [])) .startCommand
      driver := driverForCommand s.driver
      present := true
      xfer := .idle }

end Sys2Proof.Machine
end

