-- ==== Sys2Proof/Machine/Step.lean ====
section
/-! DEFINITION. One step of the machine: one event of the running request (00_scope.md R12, 10_state.md R22), or the
acceptance of the host's next request with its first event (log 1). An event's step takes along the silent part after
it (log 26, log 27). -/

namespace Sys2Proof.Machine

/-- One step. A halted state is a fault (R206); an idle block with no request offered waits, unchanged (R231, log 3). -/
def step (s : State) : Host.Outcome State Fault Refusal :=
  if s.halted then .fault .halted
  else match fetch s with
    | .waiting => .next s
    | .rejected r => .refused r
    | .run i t => exec i t

/-- `s` with the opcode table's word as the instruction that runs next (log 22). -/
def State.withFetchWord (s : State) (nbits w : Nat) : State := placeCode s (codeOfTableWord nbits w)

end Sys2Proof.Machine
end

