-- ==== Sys2Proof/Machine/Asm.lean ====
section
/-! DEFINITION. The spec's assembler syntax (30_encoding.md R87) and its pseudo-instructions (R88), as a function from a
line of text to the requests it stands for. Nothing in the machine reads it (log 24). -/

namespace Sys2Proof.Machine

/-- A blank. -/
def isBlank (c : Char) : Bool := c == ' ' || c == '\t'

/-- The text without the blanks around it. -/
def trimText (cs : List Char) : List Char := ((cs.dropWhile isBlank).reverse.dropWhile isBlank).reverse

/-- The text cut at every `sep`. -/
def splitText (sep : Char) : List Char → List (List Char)
  | [] => [[]]
  | c :: cs =>
    if c = sep then [] :: splitText sep cs
    else
      match splitText sep cs with
      | [] => [[c]]
      | w :: ws => (c :: w) :: ws

/-- The value of a hexadecimal digit. -/
def digitValue (c : Char) : Option Nat :=
  if 48 ≤ c.toNat ∧ c.toNat ≤ 57 then some (c.toNat - 48)
  else if 65 ≤ c.toNat ∧ c.toNat ≤ 70 then some (c.toNat - 55)
  else if 97 ≤ c.toNat ∧ c.toNat ≤ 102 then some (c.toNat - 87)
  else none

/-- The digits read on from the value `n`. -/
def digitsFrom (base : Nat) : Nat → List Char → Option Nat
  | n, [] => some n
  | n, c :: cs =>
    match digitValue c with
    | some d => if d < base then digitsFrom base (n * base + d) cs else none
    | none => none

/-- A number: decimal, or hexadecimal after `0x` (R87). -/
def numberOf : List Char → Option Nat
  | [] => none
  | '0' :: 'x' :: c :: cs => digitsFrom 16 0 (c :: cs)
  | cs => digitsFrom 10 0 cs

/-- A number that fits a field of `w` bits. -/
def fieldOf (w : Nat) (cs : List Char) : Option (BitVec w) :=
  match numberOf cs with
  | some n => if n < 2 ^ w then some (BitVec.ofNat w n) else none
  | none => none

/-- A tag `B:D.F`: bus, device, function, as the tag field of R71 (R87). -/
def tagFieldOf (cs : List Char) : Option (BitVec 16) :=
  match splitText ':' cs with
  | [b, df] =>
    match splitText '.' df with
    | [d, f] => do
      let bus ← fieldOf 8 b
      let dev ← fieldOf 5 d
      let fn ← fieldOf 3 f
      return bus ++ dev ++ fn
    | _ => none
  | _ => none

/-- `r` or `w` (R87). -/
def writingOf (cs : List Char) : Option Bool :=
  if cs = ['r'] then some false else if cs = ['w'] then some true else none

/-- `cfg.read t, reg, width` (R87). -/
def asmCfgRead (t reg : List Char) (width : BitVec 3) : Option Instr := do
  return .cfgRead (← tagFieldOf t) (← fieldOf 8 reg) width

/-- `start unit, lba, r|w`; the payload of a write stands beside the text (R87, R84). -/
def asmStart (unit lba : List Char) (writing : Bool) (payload : List Byte) : Option Instr := do
  return .start (← fieldOf 1 unit) writing (← fieldOf 28 lba) (if writing then payload else [])

/-- One request of R87 from its mnemonic and operands. -/
def asmRequest (mnemonic : String) (ops : List (List Char)) (payload : List Byte) : Option Instr :=
  match ops with
  | [] =>
    if mnemonic = "hasintr" then some .hasIntr
    else if mnemonic = "clrintr" then some .clearIntr
    else none
  | [a] =>
    if mnemonic = "tag.split" then do return .tagSplit (← fieldOf 32 a)
    else if mnemonic = "bar.decode" then do return .barDecode (← fieldOf 32 a)
    else if mnemonic = "complete" then do return .complete (← writingOf a)
    else none
  | [a, b, c] =>
    if mnemonic = "cfg.read" then do asmCfgRead a b (← fieldOf 3 c)
    else if mnemonic = "cfg.write" then do return .cfgWrite (← tagFieldOf a) (← fieldOf 8 b) (← fieldOf 32 c)
    else if mnemonic = "tag.make" then do return .tagMake (← fieldOf 8 a) (← fieldOf 5 b) (← fieldOf 3 c)
    else if mnemonic = "attach" then do return .attach (← fieldOf 16 a) (← fieldOf 16 b) (← tagFieldOf c)
    else if mnemonic = "start" then do asmStart a b (← writingOf c) payload
    else none
  | [a, b, c, _] => if mnemonic = "start" ∧ c = ['w'] then asmStart a b true payload else none
  | _ => none

/-- The pseudo-instructions of R88, each its expansion; any other mnemonic is a request of R87. -/
def asmLine (p : Params) (mnemonic : String) (ops : List (List Char)) (payload : List Byte) : Option (List Instr) :=
  match ops with
  | [t] =>
    if mnemonic = "pci.irqline" then do
      return [← asmCfgRead t ['0', 'x', '3', 'c'] (BitVec.ofNat 3 p.irqWidth.bytes)]
    else if mnemonic = "pci.vendor" then do return [← asmCfgRead t ['0', 'x', '0', '0'] 2]
    else do return [← asmRequest mnemonic ops payload]
  | [a, b] =>
    if mnemonic = "cfg.read8" then do return [← asmCfgRead a b 1]
    else if mnemonic = "cfg.read16" then do return [← asmCfgRead a b 2]
    else if mnemonic = "cfg.read32" then do return [← asmCfgRead a b 4]
    else if mnemonic = "disk.read" then do return [← asmStart a b false payload, .complete false]
    else none
  | [a, b, _] =>
    if mnemonic = "disk.write" then do return [← asmStart a b true payload, .complete true]
    else do return [← asmRequest mnemonic ops payload]
  | _ => do return [← asmRequest mnemonic ops payload]

/-- The operands of a line, cut at commas. -/
def operandsOf (cs : List Char) : List (List Char) :=
  if trimText cs = [] then [] else (splitText ',' cs).map trimText

/-- A line of text: a mnemonic, a blank, operands with commas between them, and a comment after `;` (R87, R88). The
payload of a write START stands beside the text. -/
def assemble (p : Params) (line : String) (payload : List Byte) : Option (List Instr) :=
  let text := trimText (line.toList.takeWhile (· != ';'))
  asmLine p (String.ofList (text.takeWhile (!isBlank ·))) (operandsOf (text.dropWhile (!isBlank ·))) payload

end Sys2Proof.Machine
end

