-- ==== Sys2Proof/Safety.lean ====
section
/-! DEFINITION. The terms claims use: readiness, runs of one request, the event lists of the waits, the state invariant,
the events the block may emit, and the opcode table's matches and masks. -/

namespace Sys2Proof

open Sys2Proof.Machine

/-- The block accepts a request (10_state.md R23). -/
def Ready (s : State) : Prop := s.halted = false ∧ s.seq = .idle

/-- The block stands at position `k` of request `i` (R22). -/
def Running (i : Instr) (k : Pos) (s : State) : Prop := s.halted = false ∧ s.seq = .run i k

/-- The next step is one of request `i`: the block runs it, or is idle and the host offers it next (R22, R23). -/
def NextStepOf (i : Instr) (s : State) : Prop :=
  (∃ k, s.seq = .run i k) ∨
    (s.seq = .idle ∧ ∃ r rest, s.requests = r :: rest ∧ decode (.request r) = .ok i)

/-- `n` steps on behalf of request `i`, stopping at the first fault or refusal. -/
def execTimes (i : Instr) : Nat → State → Out
  | 0, s => .next s
  | n + 1, s =>
    match exec i s with
    | .next t => execTimes i n t
    | .fault f => .fault f
    | .refused r => .refused r

/-- Events as the trace keeps them, under one request id (R34, R85). -/
def tagged (id : Nat) (es : List Event) : List Entry := es.map (Entry.mk id)

/-- A state after its next request was accepted, the events `es` were recorded and `answers` are left. -/
def afterEvents (s : State) (es : List Event) (answers : List Word) : State :=
  { s with reqId := s.reqId + 1, trace := s.trace ++ tagged (s.reqId + 1) es, answers := answers }

/-- Oracle answers that are bytes. -/
def byteAnswers (bs : List Byte) : List Word := bs.map (BitVec.setWidth 32)

/-- The events of a status wait at `base` that reads the failing bytes and then `last`, from a count of `n` failed reads:
a diagnostic after every `interval`-th (42_ata_engine.md R140). -/
def waitEvents (interval : Nat) (base : Port) (last : Byte) : Nat → List Byte → List Event
  | _, [] => [.in1 (base + 7) last]
  | n, st :: rest =>
    .in1 (base + 7) st :: ((if (n + 1) % interval = 0 then [.diag base] else []) ++
      waitEvents interval base last (n + 1) rest)

/-- Byte reads of one port. -/
def readEvents (port : Port) (bs : List Byte) : List Event := bs.map (Event.in1 port)

/-- The seven writes of START (R144), as numbers: control 0, count 1, LBA bytes, drive/head, command. -/
def startWrites (b : Bases) (unit : BitVec 1) (lba : BitVec 28) (writing : Bool) : List Event :=
  [.out1 b.ctl 0, .out1 (b.cmd + 2) 1,
    .out1 (b.cmd + 3) (BitVec.ofNat 8 lba.toNat),
    .out1 (b.cmd + 4) (BitVec.ofNat 8 (lba.toNat / 2 ^ 8)),
    .out1 (b.cmd + 5) (BitVec.ofNat 8 (lba.toNat / 2 ^ 16)),
    .out1 (b.cmd + 6) (BitVec.ofNat 8 (0xE0 + 0x10 * unit.toNat + lba.toNat / 2 ^ 24)),
    .out1 (b.cmd + 7) (if writing then 0x30 else 0x20)]

/-- The number a little-endian list of bytes stands for. -/
def leNat : List Byte → Nat
  | [] => 0
  | b :: bs => b.toNat + 256 * leNat bs

/-- The 128 data writes of a write START: word `i` is payload bytes `4i` to `4i + 3`, little-endian (R57, R144). -/
def pushEvents (b : Bases) (payload : List Byte) : List Event :=
  (List.range 128).map fun i => .out4 b.cmd (BitVec.ofNat 32 (leNat ((payload.drop (4 * i)).take 4)))

/-- What PROBE's polls show (R143): at most 999 zeros and then a nonzero byte, a disk unless it is 0xFF; or 1000
zeros. -/
def PollsShow (polls : List Byte) (present : Bool) : Prop :=
  (∃ k r, k < 1000 ∧ r ≠ 0 ∧ polls = List.replicate k 0 ++ [r] ∧ (present = true ↔ r ≠ 0xFF)) ∨
    (polls = List.replicate 1000 0 ∧ present = false)

/-- The configuration address word of a tag field and a register offset, as a number (30_encoding.md R73). -/
def addressWord (tagf : BitVec 16) (reg : Nat) : Word := BitVec.ofNat 32 (2 ^ 31 + 2 ^ 8 * tagf.toNat + reg / 4 * 4)

/-- The three events of a configuration read (R101). -/
def configReadEvents (tagf : BitVec 16) (reg : Nat) (v : Word) : List Event :=
  [.out4 0xCF8 (addressWord tagf reg), .in4 0xCFC v, .out4 0xCF8 0]

/-- `bar_decode` as a number (R120). -/
def barBase (raw : Word) : Port := BitVec.ofNat 16 (raw.toNat % 2 ^ 16 / 8 * 8)

/-- The state after ATTACH's PROBE read its last poll (R124, R125, R143). -/
def afterProbe (s : State) (present : Bool) (value : Word) : State :=
  { s with
    present := present
    result := some ⟨if present then .ok else .diskAbsent, value, none⟩ }

/-- The address word a running request has open at CFG_ADDR_PORT: between its address write and its closing write (R101,
R102, R241). -/
def openAddress : Seq → Option Word
  | .run (.cfgRead tagf reg _) (.cfgRead .data) => some (addressWord tagf reg.toNat)
  | .run (.cfgRead tagf reg _) (.cfgRead (.close _)) => some (addressWord tagf reg.toNat)
  | .run (.cfgWrite tagf reg _) (.cfgWrite .data) => some (addressWord tagf reg.toNat)
  | .run (.cfgWrite tagf reg _) (.cfgWrite .close) => some (addressWord tagf reg.toNat)
  | .run (.attach _ _ tagf) (.attachCfg n .data) => some (addressWord tagf n.reg.toNat)
  | .run (.attach _ _ tagf) (.attachCfg n (.close _)) => some (addressWord tagf n.reg.toNat)
  | _ => none

/-- A native driver is installed. -/
def NativeInstalled (s : State) : Prop := ∃ b bm, s.driver = .native b bm

/-- An interrupt line read at the width P_IRQ_WIDTH (R9, R125). -/
def IrqFits (p : Params) (q : Word) : Prop := q.toNat < 256 ^ p.irqWidth.bytes

/-- The interrupt line a native read has kept fits its width. -/
def KeptIrqFits (p : Params) : NativeRead → Prop
  | .irq => True
  | .bar0 q => IrqFits p q
  | .bar1 q _ => IrqFits p q
  | .bar4 q _ _ => IrqFits p q

/-- The position is one of the request's, in a state in which the request can stand there. -/
def PosFits (s : State) : Instr → Pos → Prop
  | .cfgRead _ _ _, .cfgRead _ => True
  | .cfgWrite _ reg _, .cfgWrite _ => reg.toNat % 4 = 0
  | .attach _ _ _, .attachCfg n _ => s.driver = .none ∧ KeptIrqFits s.params n
  | .attach _ _ _, .probeWait _ => s.driver ≠ .none ∧ s.present = false
  | .attach _ _ _, .probePoll n => s.driver ≠ .none ∧ s.present = false ∧ n < 1000
  | .start _ _ _ _, .startWait _ => s.present = true ∧ s.xfer = .idle
  | .start _ _ _ _, .startReg _ => s.present = true ∧ s.xfer = .idle
  | .start _ _ _ _, .startCommand => s.present = true ∧ s.xfer = .idle
  | .start _ writing _ _, .startDrq => s.present = true ∧ s.xfer = .idle ∧ writing = true
  | .start _ writing _ _, .startPush n => s.present = true ∧ s.xfer = .idle ∧ writing = true ∧ n < 128
  | .complete writing, .completeWait _ => s.present = true ∧ s.xfer = .readPending ∧ writing = false
  | .complete writing, .completePull got =>
    s.present = true ∧ s.xfer = .readPending ∧ writing = false ∧ got.length < 128
  | .hasIntr, .hasIntrRead => NativeInstalled s
  | .clearIntr, .clearStatus1 => s.driver ≠ .none
  | .clearIntr, .clearStatus2 => s.driver ≠ .none
  | .clearIntr, .clearBmRead => NativeInstalled s
  | .clearIntr, .clearBmWrite b => NativeInstalled s ∧ bmError b = false
  | .clearIntr, .clearEoi => s.driver ≠ .none
  | _, _ => False

/-- The sequencer is idle, or at a fitting position of a well-formed request (R22, R70). -/
def SeqFits (s : State) : Prop :=
  match s.seq with
  | .idle => True
  | .run i k => i.WellFormed ∧ PosFits s i k

/-- The invariant of the block's state. -/
structure BlockInv (s : State) : Prop where
  /-- The parameters are in their ranges (R8). -/
  params_wf : s.params.wf = true
  /-- A LEGACY driver has the fixed bases and IRQ (R124). -/
  legacy_fixed : ∀ b, s.driver = .legacy b → b = ⟨0x1F0, 0x3F6, 14⟩
  /-- A NATIVE driver's bases are multiples of 8 (R59, R120), its IRQ has the width read (R125). -/
  native_bases : ∀ b bm, s.driver = .native b bm →
    b.cmd.toNat % 8 = 0 ∧ b.ctl.toNat % 8 = 0 ∧ bm.toNat % 8 = 0 ∧ IrqFits s.params b.irq
  /-- A disk is present only behind a driver (R26). -/
  disk_needs_driver : s.present = true → s.driver ≠ .none
  /-- A transfer is pending only with a disk (R144, R149). -/
  session_needs_disk : s.xfer ≠ .idle → s.present = true
  /-- `halted` and `fatal` go together (R206). -/
  halted_iff_fatal : s.halted = true ↔ s.fatal ≠ none
  /-- `fatal` holds a fatal code, the one the result latch reports (R27, R206). -/
  fatal_reported : ∀ e, s.fatal = some e → e.isFatal = true ∧ ∃ v, s.result = some ⟨e, v, none⟩
  /-- A halted block is idle (R206). -/
  halted_idle : s.halted = true → s.seq = .idle
  /-- The sequencer position fits. -/
  seq_fits : SeqFits s
  /-- The configuration address is open inside a configuration access, else unknown or 0 (R24, R241). -/
  cfg_addr : match openAddress s.seq with
    | some a => s.cfgAddr = some a
    | none => s.cfgAddr = none ∨ s.cfgAddr = some 0
  /-- Data in the result latch is one sector, and only of a success (R86). -/
  result_data : ∀ r d, s.result = some r → r.data = some d → r.status = .ok ∧ r.value = 0 ∧ d.length = 512
  /-- Every event belongs to an accepted request (R85). -/
  trace_ids : ∀ e ∈ s.trace, e.id ≤ s.reqId

/-- The events the block may emit under driver `d`: the ports, widths, directions and fixed values of R53, R54, R58, R73,
R79, R82, R173 and R174. -/
def AllowedEvent (p : Params) (d : Driver) : Event → Prop
  | .out4 port v =>
    (port = 0xCF8 ∧ (v = 0 ∨ ∃ tagf reg, v = addressWord tagf reg ∧ reg < 256)) ∨ port = 0xCFC ∨
      ∃ b, d.bases = some b ∧ port = b.cmd
  | .in4 port _ => port = 0xCFC ∨ ∃ b, d.bases = some b ∧ port = b.cmd
  | .out1 port v =>
    (∃ b, d.bases = some b ∧
      ((port = b.ctl ∧ v = 0) ∨ (port = b.cmd + 2 ∧ v = 1) ∨ port = b.cmd + 3 ∨ port = b.cmd + 4 ∨ port = b.cmd + 5 ∨
        (port = b.cmd + 6 ∧ v &&& 0xE0 = 0xE0) ∨ (port = b.cmd + 7 ∧ (v = 0x20 ∨ v = 0x30)))) ∨
      ∃ b bm, d = .native b bm ∧ port = bm + 2 ∧ v.getLsbD 1 = false
  | .in1 port _ =>
    (∃ b, d.bases = some b ∧ (port = b.cmd + 7 ∨ (port = b.cmd + 2 ∧ p.probeReg = .sectorCount))) ∨
      ∃ b bm, d = .native b bm ∧ port = bm + 2
  | .eoi irq => (∃ b, d = .legacy b ∧ irq = 14) ∨ ∃ b bm, d = .native b bm ∧ irq = b.irq
  | .diag port => ∃ b, d.bases = some b ∧ port = b.cmd

/-- A row of the opcode table: a header matches it when `H & mask = match` (30_encoding.md R71). -/
structure TableRow where
  matchBits : Header
  mask      : Header
  deriving DecidableEq, Repr

/-- The ten request rows of R71. -/
def requestRows : List TableRow :=
  [⟨0x01, 0xFFFFFFF8000000FF⟩, ⟨0x02, 0x00000000000000FF⟩, ⟨0x03, 0xFFFFFFFFFF0000FF⟩, ⟨0x04, 0xFFFFFF00000000FF⟩,
    ⟨0x05, 0xFFFFFF00000000FF⟩, ⟨0x10, 0xFF000000000000FF⟩, ⟨0x20, 0xFFFFFF0000000CFF⟩, ⟨0x21, 0xFFFFFFFFFFFFFEFF⟩,
    ⟨0x30, 0xFFFFFFFFFFFFFFFF⟩, ⟨0x31, 0xFFFFFFFFFFFFFFFF⟩]

/-- The refusals of R83, in its words: (a) and (b) by the table's matches and masks, (c), (d), (e) by the fields. -/
def RefusedHeader (r : Request) : Prop :=
  (∀ row ∈ requestRows, r.header &&& row.mask ≠ row.matchBits) ∨
    (r.header &&& 0xFF = 0x01 ∧ ¬ (r.header >>> 32 &&& 7 = 1 ∨ r.header >>> 32 &&& 7 = 2 ∨ r.header >>> 32 &&& 7 = 4)) ∨
    (r.header &&& 0xFF = 0x04 ∧ r.header >>> 8 &&& 0xFF0000FF ≠ 0) ∨
    (r.header &&& 0xFF = 0x20 ∧ r.header >>> 9 &&& 1 = 1 ∧ r.payload.length ≠ 512)

/-- The requests after which a payload may stand: write STARTs (R84). -/
def PayloadExpected (r : Request) : Prop := r.header &&& 0xFF = 0x20 ∧ r.header >>> 9 &&& 1 = 1

end Sys2Proof
end

