-- ==== Sys2Proof/Certificates/Slice0/Obligations.lean ====
section
/-! DEFINITION. The statements for the provers. Each docstring cites the rule of spec/ it states; OBLIGATIONS.json lists
them. A statement about a read quantifies over every answer of the oracle (20_memory.md R55). -/

open Sys2Proof Sys2Proof.Machine

/-! ### Encoding and decoding -/

/-- Decoding an encoded instruction gives it back, with every operand at every value the encoding admits
(30_encoding.md R70, R71, R82). The encoding is the spec's own decision D2. -/
def Obligations.DecodeOfEncode : Prop := ∀ i : Instr, i.WellFormed → decode (encode i) = .ok i

/-- A code that decodes is the encoding of what it decodes to, which is well-formed: no bit is dropped, and no two
codes mean the same instruction. The encoding is the spec's own decision D2. -/
def Obligations.EncodeOfDecode : Prop := ∀ c i, decode c = .ok i → encode i = c ∧ i.WellFormed

/-- R83: a header (with the payload that may follow it) is refused exactly in the listed cases, and a refused request
is not accepted: the step of a ready block that is offered it is a refusal, and no state comes of it. "Refusal is" the
spec's own decision D2, and for tags D33. -/
def Obligations.RefusedHeaders : Prop :=
  ∀ s r rest, Ready s → s.requests = r :: rest → (¬ PayloadExpected r → r.payload = []) →
    (RefusedHeader r → ∃ reason, step s = .refused reason) ∧ (¬ RefusedHeader r → ∃ i, decode (.request r) = .ok i)

/-- The model's choice (log 15): bytes after a request that carries no payload (R70, R84) are refused, not ignored. -/
def Obligations.StrayPayloadRefused : Prop :=
  ∀ s r rest, Ready s → s.requests = r :: rest → ¬ PayloadExpected r → r.payload ≠ [] →
    ∃ reason, step s = .refused reason

/-- R89: the three worked headers decode to, and are the encodings of, the requests they stand for. The encoding is
the spec's own decision D2. -/
def Obligations.WorkedHeadersDecode : Prop :=
  decode (.request ⟨0x000000013C001801, []⟩) = .ok (.cfgRead 0x0018 0x3C 1) ∧
    encode (.cfgRead 0x0018 0x3C 1) = .request ⟨0x000000013C001801, []⟩ ∧
    decode (.request ⟨0x0000000704000002, []⟩) = .ok (.cfgWrite 0 0x04 7) ∧
    encode (.cfgWrite 0 0x04 7) = .request ⟨0x0000000704000002, []⟩ ∧
    decode (.request ⟨0x0000000123456120, []⟩) = .ok (.start 1 false 0x123456 []) ∧
    encode (.start 1 false 0x123456 []) = .request ⟨0x0000000123456120, []⟩

/-- R89: the three worked lines assemble to requests whose headers are those R89 gives, whatever the parameters. The
encoding and the syntax are the spec's own decisions D2 and D30. -/
def Obligations.WorkedLinesAssemble : Prop :=
  ∀ p payload,
    (assemble p "cfg.read 0:3.0, 0x3c, 1" payload).map (List.map encode) =
        some [.request ⟨0x000000013C001801, []⟩] ∧
      assemble p "cfg.read 0:3.0, 0x3c, 1" payload = some [.cfgRead 0x0018 0x3C 1] ∧
      (assemble p "cfg.write 0:0.0, 0x04, 0x00000007" payload).map (List.map encode) =
        some [.request ⟨0x0000000704000002, []⟩] ∧
      (assemble p "start 1, 0x123456, r" payload).map (List.map encode) = some [.request ⟨0x0000000123456120, []⟩]

/-- R88: each pseudo-instruction is its expansion, whatever its operands' text; `pci.irqline` reads P_IRQ_WIDTH bytes,
and the two disk pseudo-instructions are two requests. The pseudo-instructions are the spec's own decision D30. -/
def Obligations.PseudoLinesExpand : Prop :=
  ∀ p t reg unit lba buf payload,
    asmLine p "cfg.read8" [t, reg] payload = asmLine p "cfg.read" [t, reg, ['1']] payload ∧
      asmLine p "cfg.read16" [t, reg] payload = asmLine p "cfg.read" [t, reg, ['2']] payload ∧
      asmLine p "cfg.read32" [t, reg] payload = asmLine p "cfg.read" [t, reg, ['4']] payload ∧
      asmLine p "pci.irqline" [t] payload =
        asmLine p "cfg.read" [t, "0x3c".toList, (toString p.irqWidth.bytes).toList] payload ∧
      asmLine p "pci.vendor" [t] payload = asmLine p "cfg.read" [t, "0x00".toList, ['2']] payload ∧
      asmLine p "disk.read" [unit, lba] payload = (do
        let first ← asmLine p "start" [unit, lba, ['r']] payload
        let second ← asmLine p "complete" [['r']] payload
        return first ++ second) ∧
      asmLine p "disk.write" [unit, lba, buf] payload = (do
        let first ← asmLine p "start" [unit, lba, ['w'], buf] payload
        let second ← asmLine p "complete" [['w']] payload
        return first ++ second)

/-! ### The step -/

/-- A step of a ready block runs the host's next request, taken from the list (R20, R23). The agents and the sequencer
are the spec's own decisions D1 and D4, the list of requests the model's (log 3). -/
def Obligations.StepRunsDecodedRequest : Prop :=
  ∀ s r rest i, Ready s → s.requests = r :: rest → decode (.request r) = .ok i →
    step s = exec i { s with requests := rest }

/-- A step of a running block goes on with the running request (R22); at START's command position it runs the ATA
command (R82), which is the same step of START. The sequencer is the spec's own decision D4, the place of the ATA
commands the model's reading (log 13). -/
def Obligations.StepRunsRunningRequest : Prop :=
  (∀ s i k, Running i k s → k ≠ .startCommand → step s = exec i s) ∧
    (∀ s unit writing lba payload, Running (.start unit writing lba payload) .startCommand s →
      step s = exec (if writing then .ataCmdWrite else .ataCmdRead) s ∧
        step s = exec (.start unit writing lba payload) s)

/-- An idle block with no request offered waits, unchanged (R231; the stutter is the model's, log 3). -/
def Obligations.IdleBlockWaits : Prop := ∀ s, Ready s → s.requests = [] → step s = .next s

/-- R23: while a request runs, another is not accepted: it is held, without effect. The spec's own decision D1; that
holding is an unchanged state is the model's reading (log 12). -/
def Obligations.OfferedRequestIsHeld : Prop :=
  ∀ s i j k, Running j k s → i ≠ j → i ≠ runningInstr j k → exec i s = .next s

/-- R206, R23: a halted block accepts nothing; the halted state is a fault. The spec's own decision D22; the form of
the fault is the model's (log 11). -/
def Obligations.HaltedBlockIsStuck : Prop :=
  ∀ s, s.halted = true → step s = .fault .halted ∧ ∀ i, exec i s = .fault .halted

/-! ### PciTag and BAR -/

/-- R103: TAG_MAKE returns bus·2^16 + device·2^11 + function·2^8 and changes nothing else. The bit positions are
general knowledge of the spec, decision D8. -/
def Obligations.TagMakeReturnsTag : Prop :=
  ∀ s bus dev fn, Ready s → ∃ (v : Word) (t : State),
    v.toNat = bus.toNat * 2 ^ 16 + dev.toNat * 2 ^ 11 + fn.toNat * 2 ^ 8 ∧
      exec (.tagMake bus dev fn) s = .next t ∧ t = { s with reqId := t.reqId, result := some ⟨.ok, v, none⟩ }

/-- R104: TAG_SPLIT returns the bus, device and function one a byte, is refused on a value with stray bits, and
changes nothing else. The bit positions and the refusal are the spec's own decisions D8 and D33. -/
def Obligations.TagSplitReturnsFields : Prop :=
  ∀ s tag, Ready s →
    if tag &&& 0xFF0000FF = 0 then
      ∃ (v : Word) (t : State),
        v.toNat = tag.toNat / 2 ^ 16 % 2 ^ 8 + tag.toNat / 2 ^ 11 % 2 ^ 5 * 2 ^ 8 + tag.toNat / 2 ^ 8 % 2 ^ 3 * 2 ^ 16 ∧
          exec (.tagSplit tag) s = .next t ∧ t = { s with reqId := t.reqId, result := some ⟨.ok, v, none⟩ }
    else exec (.tagSplit tag) s = .refused .badTag

/-- "Encoding/decoding must be inverse" (R72, R104): a TAG_SPLIT of what a TAG_MAKE returned returns the operands. -/
def Obligations.TagSplitInvertsTagMake : Prop :=
  ∀ s bus dev fn, Ready s → ∃ t v, exec (.tagMake bus dev fn) s = .next t ∧ t.result = some ⟨.ok, v, none⟩ ∧
    ∃ u, exec (.tagSplit v) t = .next u ∧
      u.result = some ⟨.ok, BitVec.ofNat 32 (bus.toNat + dev.toNat * 2 ^ 8 + fn.toNat * 2 ^ 16), none⟩

/-- R120, R121: BAR_DECODE returns the low 16 bits of `raw` with the low 3 cleared and changes nothing else. -/
def Obligations.BarDecodeReturnsBase : Prop :=
  ∀ s raw, Ready s → ∃ (v : Word) (t : State), v.toNat = raw.toNat % 2 ^ 16 / 8 * 8 ∧
    exec (.barDecode raw) s = .next t ∧ t = { s with reqId := t.reqId, result := some ⟨.ok, v, none⟩ }

/-! ### Configuration space -/

/-- R101: CFG_READ of width 1, 2 or 4 takes three events, the address write, the data read and the closing write, and
returns the word read shifted right by 8·(reg mod 4) and masked to `width` bytes. That three steps take three events,
and the request id, are the model's (log 1, log 7, log 27). -/
def Obligations.ConfigReadCompletes : Prop :=
  ∀ s tagf reg (width : BitVec 3), Ready s → (width = 1 ∨ width = 2 ∨ width = 4) →
    ∃ s₁ s₂ v x, exec (.cfgRead tagf reg width) s = .next s₁ ∧ exec (.cfgRead tagf reg width) s₁ = .next s₂ ∧
      v = s₁.in4 0xCFC ∧ (∀ a rest, s.answers = a :: rest → v = a) ∧
      x.toNat = v.toNat / 256 ^ (reg.toNat % 4) % 256 ^ width.toNat ∧
      exec (.cfgRead tagf reg width) s₂ = .next
        { afterEvents s (configReadEvents tagf reg.toNat v) s.answers.tail with
          cfgAddr := some 0, result := some ⟨.ok, x, none⟩ }

/-- R83 (c): CFG_READ of any other width is refused. "Refusal is" the spec's own decision D2. -/
def Obligations.ConfigReadBadWidthRefused : Prop :=
  ∀ s tagf reg (width : BitVec 3), Ready s → width ≠ 1 → width ≠ 2 → width ≠ 4 →
    exec (.cfgRead tagf reg width) s = .refused .badWidth

/-- R102, R201: CFG_WRITE at a multiple of 4 takes three events, the address write, the data write and the closing
write; at any other offset it raises AlignmentError before any event. The closing write is the spec's own decision
D10, the steps and the request id the model's (log 1, log 7, log 27). -/
def Obligations.ConfigWriteCompletes : Prop :=
  ∀ s tagf (reg : BitVec 8) val, Ready s →
    if reg.toNat % 4 = 0 then
      ∃ s₁ s₂, exec (.cfgWrite tagf reg val) s = .next s₁ ∧ exec (.cfgWrite tagf reg val) s₁ = .next s₂ ∧
        exec (.cfgWrite tagf reg val) s₂ = .next
          { afterEvents s [.out4 0xCF8 (addressWord tagf reg.toNat), .out4 0xCFC val, .out4 0xCF8 0] s.answers with
            cfgAddr := some 0, result := some ⟨.ok, 0, none⟩ }
    else
      ∃ t, exec (.cfgWrite tagf reg val) s = .next t ∧
        t = { s with reqId := t.reqId, result := some ⟨.alignmentError, 0, none⟩ }

/-! ### Attach -/

/-- R122, R202: ATTACH of a pair outside P_ATTACH_TABLE returns UnsupportedDevice with no event and no state change,
whether or not a driver is installed. -/
def Obligations.AttachMissIsIgnored : Prop :=
  ∀ s vendor device tagf, Ready s →
    (∀ e ∈ s.params.attachTable, ¬ (e.vendor = vendor ∧ e.device = device)) →
    ∃ t, exec (.attach vendor device tagf) s = .next t ∧
      t = { s with reqId := t.reqId, result := some ⟨.unsupportedDevice, 0, none⟩ }

/-- R123, R203, R206: a registry hit with a driver installed, present or not, raises DuplicateDeviceError: no event,
no driver field changed, the block halted. The spec's own decisions D14 (absent disks count) and D22 (what halts). -/
def Obligations.SecondAttachIsFatal : Prop :=
  ∀ s vendor device tagf e, Ready s → e ∈ s.params.attachTable → e.vendor = vendor → e.device = device →
    s.driver ≠ .none →
    ∃ t, exec (.attach vendor device tagf) s = .next t ∧
      t = { s with
        reqId := t.reqId
        halted := true
        fatal := some .duplicateDevice
        result := some ⟨.duplicateDevice, 0, none⟩ }

/-- R124, R143: ATTACH of a LEGACY device installs the fixed bases and IRQ, waits and polls at `0x1F0`, one step an
event, and ends with the probe's verdict; it reads no configuration register. The order of the installation, the
diagnostics and the poll are the spec's own decisions D11 to D14 and D21, the steps and the request id the model's
(log 1, log 7, log 26, log 27). -/
def Obligations.LegacyAttachCompletes : Prop :=
  ∀ s vendor device tagf fails last polls rest present, Ready s → s.driver = .none →
    lookupHandler s.params.attachTable vendor device = some .legacy →
    (∀ st ∈ fails, probeWaitDone s.params.probeWait st = false) → probeWaitDone s.params.probeWait last = true →
    PollsShow polls present → s.answers = byteAnswers (fails ++ [last] ++ polls) ++ rest →
    let es := waitEvents s.params.warnInterval 0x1F0 last 0 fails ++
      readEvents (if s.params.probeReg = .sectorCount then 0x1F2 else 0x1F7) polls
    execTimes (.attach vendor device tagf) es.length s = .next
      { afterProbe (afterEvents s es rest) present 1 with
        driver := .legacy ⟨0x1F0, 0x3F6, 14⟩, spin := fails.length }

/-- R125, R143: ATTACH of a NATIVE device reads the interrupt line, BAR0, BAR1 and BAR4 in that order, three events
each, installs what they decode to, unchecked, then waits and polls at the command base, one step an event, and ends
with the probe's verdict. The offsets, widths and order of the reads and the poll are the spec's own decisions D11 to
D14, D17 to D19 and D21, the steps and the request id the model's (log 1, log 7, log 26, log 27). -/
def Obligations.NativeAttachCompletes : Prop :=
  ∀ s vendor device tagf q b0 b1 b4 fails last polls rest present, Ready s → s.driver = .none →
    lookupHandler s.params.attachTable vendor device = some .native →
    (∀ st ∈ fails, probeWaitDone s.params.probeWait st = false) → probeWaitDone s.params.probeWait last = true →
    PollsShow polls present → s.answers = [q, b0, b1, b4] ++ (byteAnswers (fails ++ [last] ++ polls) ++ rest) →
    let base := barBase b0
    let es := configReadEvents tagf 0x3C q ++ configReadEvents tagf 0x10 b0 ++ configReadEvents tagf 0x14 b1 ++
      configReadEvents tagf 0x20 b4 ++
      waitEvents s.params.warnInterval base last 0 fails ++
      readEvents (if s.params.probeReg = .sectorCount then base + 2 else base + 7) polls
    execTimes (.attach vendor device tagf) es.length s = .next
      { afterProbe (afterEvents s es rest) present 2 with
        driver := .native ⟨base, barBase b1, BitVec.ofNat 32 (q.toNat % 256 ^ s.params.irqWidth.bytes)⟩ (barBase b4)
        cfgAddr := some 0
        spin := fails.length }

/-- R143: one poll decides. 0xFF is a floating bus and ends ATTACH with DiskAbsent, any other nonzero byte ends it
with a disk present, and a zero goes on to the next poll, or after P_PROBE_READS ends it with DiskAbsent. The spec's
own decisions D12 and D13. That a loop's exit test and the writes after an event are part of its step is the model's
(log 26, log 27). -/
def Obligations.ProbePollDecides : Prop :=
  ∀ s vendor device tagf n b a rest, Running (.attach vendor device tagf) (.probePoll n) s →
    s.driver.bases = some b → n < 1000 → s.answers = a :: rest →
    let r : Byte := a.setWidth 8
    let port := if s.params.probeReg = .sectorCount then b.cmd + 2 else b.cmd + 7
    let u : State := { s with trace := s.trace ++ [⟨s.reqId, .in1 port r⟩], answers := rest }
    let value : Word := if s.variant = .legacy then 1 else 2
    exec (.attach vendor device tagf) s = .next
      (if r = 0 ∧ n + 1 < 1000 then { u with seq := .run (.attach vendor device tagf) (.probePoll (n + 1)) }
      else { afterProbe u (r ≠ 0 ∧ r ≠ 0xFF) value with seq := .idle })

/-- R25: once a driver is installed no step changes a driver field, and an ATTACH that hits the registry raises
DuplicateDeviceError with every driver field as it was. -/
def Obligations.DriverIsWrittenOnce : Prop :=
  (∀ s t, BlockInv s → step s = .next t → s.driver ≠ .none → t.driver = s.driver) ∧
    (∀ s vendor device tagf, Ready s → s.driver ≠ .none → lookupHandler s.params.attachTable vendor device ≠ none →
      ∃ t, exec (.attach vendor device tagf) s = .next t ∧ t.driver = s.driver ∧
        t.result = some ⟨.duplicateDevice, 0, none⟩)

/-- R26: `present` is written only by the probe of the ATTACH that installs the driver. That the end of the request
belongs to its last event's step is the model's (log 27). -/
def Obligations.PresentIsWrittenByTheProbe : Prop :=
  ∀ s t, BlockInv s → step s = .next t → t.present ≠ s.present →
    ∃ vendor device tagf n, s.seq = .run (.attach vendor device tagf) (.probePoll n) ∧ s.driver ≠ .none ∧ t.seq = .idle

/-! ### The ATA engine -/

/-- R144, R145: START waits without error check, makes the six register writes and the command write, and a write
START also waits for data request and pushes the 128 words, one step an event; a read START pushes no data. Offsets,
packing, diagnostics and session are the spec's own decisions D7, D16, D20 and D21, the steps and the request id the
model's (log 1, log 7, log 26, log 27). -/
def Obligations.StartCompletes : Prop :=
  ∀ s unit writing lba payload b fails last drqFails drqLast rest, Ready s → s.driver.bases = some b →
    s.present = true → s.xfer = .idle → payload.length = (if writing then 512 else 0) →
    (∀ st ∈ fails, waitDone st = false) → waitDone last = true →
    (∀ st ∈ drqFails, st.getLsbD 3 = false) → drqLast.getLsbD 3 = true →
    s.answers = byteAnswers (fails ++ [last] ++ if writing then drqFails ++ [drqLast] else []) ++ rest →
    let es := waitEvents s.params.warnInterval b.cmd last 0 fails ++ startWrites b unit lba writing ++
      if writing then readEvents (b.cmd + 7) (drqFails ++ [drqLast]) ++ pushEvents b payload else []
    execTimes (.start unit writing lba payload) es.length s = .next
      { afterEvents s es rest with
        spin := fails.length
        xfer := if writing then .writePending else .readPending
        result := some ⟨.ok, 0, none⟩ }

/-- R144, R145: a read START returns with its command write, a write START with its last data word. Offsets, packing
and session are the spec's own decisions D7, D16 and D20. That a loop's exit test and the writes after an event are
part of its step is the model's (log 26, log 27). -/
def Obligations.StartReturns : Prop :=
  (∀ s unit lba payload b, Running (.start unit false lba payload) .startCommand s → s.driver.bases = some b →
    exec (.start unit false lba payload) s = .next
      { s with
        trace := s.trace ++ [⟨s.reqId, .out1 (b.cmd + 7) 0x20⟩]
        xfer := .readPending
        result := some ⟨.ok, 0, none⟩
        seq := .idle }) ∧
    (∀ s unit lba payload b, Running (.start unit true lba payload) (.startPush 127) s → s.driver.bases = some b →
      exec (.start unit true lba payload) s = .next
        { s with
          trace := s.trace ++
            [⟨s.reqId, .out4 b.cmd (BitVec.ofNat 32 (leNat ((payload.drop 508).take 4)))⟩]
          xfer := .writePending
          result := some ⟨.ok, 0, none⟩
          seq := .idle })

/-- R82, R144: the ATA commands. READ is the write of 0x20 to `cmd + 7`, which ends a read START; WRITE is the write
of 0x30, after which a write START waits for data request. The place of the commands is the model's reading (log 13).
That the end of the request belongs to its last event's step is the model's (log 27). -/
def Obligations.DeviceCommandsComplete : Prop :=
  (∀ s unit lba payload b, Running (.start unit false lba payload) .startCommand s → s.driver.bases = some b →
    exec .ataCmdRead s = .next
      { s with
        trace := s.trace ++ [⟨s.reqId, .out1 (b.cmd + 7) 0x20⟩]
        xfer := .readPending
        result := some ⟨.ok, 0, none⟩
        seq := .idle }) ∧
    (∀ s unit lba payload b, Running (.start unit true lba payload) .startCommand s → s.driver.bases = some b →
      exec .ataCmdWrite s = .next
        { s with
          trace := s.trace ++ [⟨s.reqId, .out1 (b.cmd + 7) 0x30⟩]
          seq := .run (.start unit true lba payload) .startDrq })

/-- The model's reading of R82 (log 13): a device command is no request, and an idle block refuses it. -/
def Obligations.DeviceCommandIsNoRequest : Prop :=
  ∀ s, Ready s → exec .ataCmdRead s = .refused .notARequest ∧ exec .ataCmdWrite s = .refused .notARequest

/-- R147: a read COMPLETE waits with error check, then reads 128 words and returns their bytes, little-endian; the
session ends. Offsets, packing, diagnostics and session are the spec's own decisions D7, D16, D20 and D21, the steps
and the request id the model's (log 1, log 7, log 26, log 27). -/
def Obligations.CompleteReadReturnsSector : Prop :=
  ∀ s b fails last ws rest, Ready s → s.driver.bases = some b → s.present = true → s.xfer = .readPending →
    (∀ st ∈ fails, waitDone st = false) → waitDone last = true → last &&& 0x21 = 0 → ws.length = 128 →
    s.answers = byteAnswers (fails ++ [last]) ++ (ws ++ rest) →
    let es := waitEvents s.params.warnInterval b.cmd last 0 fails ++ ws.map (Event.in4 b.cmd)
    ∃ data : List Byte,
      data.length = 512 ∧
        (∀ i, i < 128 → (ws.getD i 0).toNat = leNat ((data.drop (4 * i)).take 4)) ∧
        execTimes (.complete false) es.length s = .next
          { afterEvents s es rest with
            spin := fails.length, xfer := .idle, result := some ⟨.ok, 0, some data⟩ }

/-- R147, R205: a read COMPLETE whose wait ends on a status with ERROR or DEVICE-FAULT raises DiskMediaError after the
wait's reads only; the session ends, every driver field stays, and the block goes on. Diagnostics and session are the
spec's own decisions D16 and D21, the steps and the request id the model's (log 1, log 7, log 26, log 27). -/
def Obligations.CompleteReadReportsMediaError : Prop :=
  ∀ s b fails last rest, Ready s → s.driver.bases = some b → s.present = true → s.xfer = .readPending →
    (∀ st ∈ fails, waitDone st = false) → waitDone last = true → last &&& 0x21 ≠ 0 →
    s.answers = byteAnswers (fails ++ [last]) ++ rest →
    let es := waitEvents s.params.warnInterval b.cmd last 0 fails
    execTimes (.complete false) es.length s = .next
      { afterEvents s es rest with
        spin := fails.length, xfer := .idle, result := some ⟨.diskMediaError, 0, none⟩ }

/-- R147: the last data read of a read COMPLETE returns the sector, its bytes little-endian in each word. Packing and
session are the spec's own decisions D16 and D20. That a loop's exit test and the writes after an event are part of
its step is the model's (log 26, log 27). -/
def Obligations.CompleteReadReturns : Prop :=
  ∀ s b got a rest, Running (.complete false) (.completePull got) s → s.driver.bases = some b → got.length = 127 →
    s.answers = a :: rest →
    exec (.complete false) s = .next
      { s with
        trace := s.trace ++ [⟨s.reqId, .in4 b.cmd a⟩]
        answers := rest
        xfer := .idle
        result := some ⟨.ok, 0, some ((got ++ [a]).flatMap fun w =>
          [BitVec.ofNat 8 w.toNat, BitVec.ofNat 8 (w.toNat / 2 ^ 8), BitVec.ofNat 8 (w.toNat / 2 ^ 16),
            BitVec.ofNat 8 (w.toNat / 2 ^ 24)])⟩
        seq := .idle }

/-- R147: a write COMPLETE is a no-op but for the end of the session. The session is the spec's own decision D16. -/
def Obligations.CompleteWriteEndsSession : Prop :=
  ∀ s, Ready s → s.driver ≠ .none → s.present = true → s.xfer = .writePending →
    ∃ t, exec (.complete true) s = .next t ∧
      t = { s with reqId := t.reqId, xfer := .idle, result := some ⟨.ok, 0, none⟩ }

/-- R149: START and COMPLETE are refused with no driver, with no disk, and out of session. "The three refusals are"
the spec's own decisions D15 and D16. -/
def Obligations.TransfersRefusedOutOfSession : Prop :=
  ∀ s, Ready s →
    (∀ unit writing lba payload, s.driver = .none ∨ s.present = false ∨ s.xfer ≠ .idle →
      ∃ r, exec (.start unit writing lba payload) s = .refused r) ∧
      (∀ writing, s.driver = .none ∨ s.present = false ∨
          s.xfer ≠ (if writing then .writePending else .readPending) →
        ∃ r, exec (.complete writing) s = .refused r)

/-- R146: how a step moves the session: into READ_PENDING or WRITE_PENDING at the end of a read or write START, back
to IDLE at the end of the matching COMPLETE, and no other way. A read COMPLETE can end with the step that accepts it,
and then with DiskMediaError. The session is the spec's own decision D16, the accepting step and what the last event's
step takes along the model's (log 1, log 27). -/
def Obligations.SessionMoves : Prop :=
  ∀ s t, BlockInv s → step s = .next t → t.xfer ≠ s.xfer →
    (t.seq = .idle ∧ s.xfer = .idle ∧ ∃ unit writing lba payload k, s.seq = .run (.start unit writing lba payload) k ∧
      t.xfer = if writing then .writePending else .readPending) ∨
      (t.seq = .idle ∧ s.xfer = .readPending ∧ t.xfer = .idle ∧ NextStepOf (.complete false) s ∧
        (s.seq = .idle → t.result = some ⟨.diskMediaError, 0, none⟩)) ∨
      (t.seq = .idle ∧ s.xfer = .writePending ∧ t.xfer = .idle ∧ s.seq = .idle ∧ NextStepOf (.complete true) s)

/-- R140: one status read of a wait decides by BUSY and READY alone: a START's wait goes on to its register writes
whatever the error bits, and a failed read counts in `spin` and leads to the diagnostic after every
P_WARN_INTERVAL-th. The count and the place of the diagnostic are the spec's own decision D21. That a loop's exit test
and the writes after an event are part of its step is the model's (log 26, log 27). -/
def Obligations.StartWaitReadDecides : Prop :=
  ∀ s unit writing lba payload b a rest, Running (.start unit writing lba payload) (.startWait .read) s →
    s.driver.bases = some b → s.answers = a :: rest →
    let st : Byte := a.setWidth 8
    let u : State := { s with trace := s.trace ++ [⟨s.reqId, .in1 (b.cmd + 7) st⟩], answers := rest }
    exec (.start unit writing lba payload) s = .next
      (if st &&& 0xC0 = 0x40 then { u with seq := .run (.start unit writing lba payload) (.startReg .control) }
      else
        { u with
          spin := s.spin + 1
          seq := .run (.start unit writing lba payload)
            (.startWait (if (s.spin + 1) % s.params.warnInterval = 0 then .diag else .read)) })

/-- R219, R140: a diagnostic is an event and nothing else; the wait goes on with its next read. The place of the
diagnostic is the spec's own decision D21. -/
def Obligations.DiagnosticHasNoEffect : Prop :=
  ∀ s i at_ b, Running i (at_ .diag) s → s.driver.bases = some b →
    ((at_ = Pos.startWait ∧ ∃ unit writing lba payload, i = Instr.start unit writing lba payload) ∨
      (at_ = Pos.completeWait ∧ i = Instr.complete false) ∨
      (at_ = Pos.probeWait ∧ ∃ vendor device tagf, i = Instr.attach vendor device tagf)) →
    exec i s = .next { s with trace := s.trace ++ [⟨s.reqId, .diag b.cmd⟩], seq := .run i (at_ .read) }

/-- R243: a wait has no bound. If the oracle's next n answers hold no exit value, n steps leave the request running at
its wait, with no result: a hang, not a fault. The diagnostics inside the waits are the spec's own decision D21. That
a loop's exit test and the writes after an event are part of its step is the model's (log 26, log 27). -/
def Obligations.WaitsHaveNoTimeout : Prop :=
  (∀ n s unit writing lba payload, Running (.start unit writing lba payload) (.startWait .read) s →
    s.driver ≠ .none → n ≤ s.answers.length → (∀ a ∈ s.answers.take n, waitDone (a.setWidth 8) = false) →
    ∃ t p, execTimes (.start unit writing lba payload) n s = .next t ∧ t.result = s.result ∧
      Running (.start unit writing lba payload) (.startWait p) t) ∧
    (∀ n s, Running (.complete false) (.completeWait .read) s →
      s.driver ≠ .none → n ≤ s.answers.length → (∀ a ∈ s.answers.take n, waitDone (a.setWidth 8) = false) →
      ∃ t p, execTimes (.complete false) n s = .next t ∧ t.result = s.result ∧
        Running (.complete false) (.completeWait p) t) ∧
    (∀ n s vendor device tagf, Running (.attach vendor device tagf) (.probeWait .read) s →
      s.driver ≠ .none → n ≤ s.answers.length →
      (∀ a ∈ s.answers.take n, probeWaitDone s.params.probeWait (a.setWidth 8) = false) →
      ∃ t p, execTimes (.attach vendor device tagf) n s = .next t ∧ t.result = s.result ∧
        Running (.attach vendor device tagf) (.probeWait p) t) ∧
    (∀ n s unit lba payload, Running (.start unit true lba payload) .startDrq s →
      s.driver ≠ .none → n ≤ s.answers.length → (∀ a ∈ s.answers.take n, a.getLsbD 3 = false) →
      ∃ t, execTimes (.start unit true lba payload) n s = .next t ∧ t.result = s.result ∧
        Running (.start unit true lba payload) .startDrq t)

/-! ### Interrupts -/

/-- R171: HAS_INTR is refused with no driver, answers 1 with no event for LEGACY, and for NATIVE bit 2 of the byte
read at `bm + 2`. The refusal and the read width are the spec's own decisions D27 and D6, the request id and the end
with the read the model's (log 7, log 27). -/
def Obligations.HasIntrAnswers : Prop :=
  (∀ s, Ready s → s.driver = .none → exec .hasIntr s = .refused .noDriver) ∧
    (∀ s b, Ready s → s.driver = .legacy b →
      ∃ t, exec .hasIntr s = .next t ∧ t = { s with reqId := t.reqId, result := some ⟨.ok, 1, none⟩ }) ∧
    (∀ s b bm a rest, Ready s → s.driver = .native b bm → s.answers = a :: rest →
      exec .hasIntr s = .next
        { afterEvents s [.in1 (bm + 2) (a.setWidth 8)] rest with
          result := some ⟨.ok, BitVec.ofNat 32 (a.toNat / 4 % 2), none⟩ })

/-- R172 for LEGACY: two status reads, then EOI(14); refused with no driver. The refusal and the status offset are the
spec's own decisions D27 and D7, the steps and the request id the model's (log 1, log 7, log 27). -/
def Obligations.LegacyClearIntrCompletes : Prop :=
  (∀ s, Ready s → s.driver = .none → exec .clearIntr s = .refused .noDriver) ∧
    (∀ s b a₁ a₂ rest, Ready s → s.driver = .legacy b → s.answers = a₁ :: a₂ :: rest →
      ∃ s₁ s₂, exec .clearIntr s = .next s₁ ∧ exec .clearIntr s₁ = .next s₂ ∧
        exec .clearIntr s₂ = .next
          { afterEvents s [.in1 (b.cmd + 7) (a₁.setWidth 8), .in1 (b.cmd + 7) (a₂.setWidth 8), .eoi 14] rest with
            result := some ⟨.ok, 0, none⟩ })

/-- R172, R173 for NATIVE with no transfer error: two status reads, the busmaster read, its write-back, EOI of the
derived IRQ; the two status values have no effect. The widths and the status offset are the spec's own decisions D6
and D7, the steps and the request id the model's (log 1, log 7, log 27). -/
def Obligations.NativeClearIntrCompletes : Prop :=
  ∀ s b bm a₁ a₂ a₃ rest, Ready s → s.driver = .native b bm → s.answers = a₁ :: a₂ :: a₃ :: rest →
    a₃.getLsbD 1 = false →
    ∃ s₁ s₂ s₃ s₄, exec .clearIntr s = .next s₁ ∧ exec .clearIntr s₁ = .next s₂ ∧ exec .clearIntr s₂ = .next s₃ ∧
      exec .clearIntr s₃ = .next s₄ ∧
      exec .clearIntr s₄ = .next
        { afterEvents s
            [.in1 (b.cmd + 7) (a₁.setWidth 8), .in1 (b.cmd + 7) (a₂.setWidth 8), .in1 (bm + 2) (a₃.setWidth 8),
              .out1 (bm + 2) (a₃.setWidth 8), .eoi b.irq] rest with
          result := some ⟨.ok, 0, none⟩ }

/-- R172, R207: with the transfer-error bit set CLEAR_INTR raises DiskMediaFatal with the byte as its value, after the
three reads and before any write-back or EOI, and the block halts. What halts is the spec's own decision D22, the
steps and the request id the model's (log 1, log 7, log 27). -/
def Obligations.NativeClearIntrFailsFatally : Prop :=
  ∀ s b bm a₁ a₂ a₃ rest, Ready s → s.driver = .native b bm → s.answers = a₁ :: a₂ :: a₃ :: rest →
    a₃.getLsbD 1 = true →
    ∃ s₁ s₂, exec .clearIntr s = .next s₁ ∧ exec .clearIntr s₁ = .next s₂ ∧
      exec .clearIntr s₂ = .next
        { afterEvents s
            [.in1 (b.cmd + 7) (a₁.setWidth 8), .in1 (b.cmd + 7) (a₂.setWidth 8), .in1 (bm + 2) (a₃.setWidth 8)]
            rest with
          halted := true
          fatal := some .diskMediaFatal
          result := some ⟨.diskMediaFatal, BitVec.ofNat 32 (a₃.toNat % 256), none⟩ }

/-- R174: an EOI event is emitted only by CLEAR_INTR, as its last event, and that CLEAR_INTR succeeds at once; and a
CLEAR_INTR, running or just accepted, that succeeds does so with an EOI event. That the end of the request belongs to
its last event's step is the model's (log 27). -/
def Obligations.EoiEndsClearIntr : Prop :=
  (∀ s t e irq, step s = .next t → t.trace = s.trace ++ [e] → e.event = .eoi irq →
    s.seq = .run .clearIntr .clearEoi ∧ t.seq = .idle ∧ t.result = some ⟨.ok, 0, none⟩) ∧
    (∀ s t r, NextStepOf .clearIntr s → step s = .next t → t.seq = .idle → t.result = some r → r.status = .ok →
      ∃ irq, t.trace = s.trace ++ [⟨t.reqId, .eoi irq⟩])

/-! ### The whole machine -/

/-- R230, R231: the reset state, and that it accepts a request. "Every value except `variant = NONE` is" the spec's
own decision D23. -/
def Obligations.ResetIsIdle : Prop :=
  State.reset.variant = .none ∧ State.reset.cmd = none ∧ State.reset.ctl = none ∧ State.reset.bm = none ∧
    State.reset.irq = none ∧ State.reset.present = false ∧ State.reset.xfer = .idle ∧ State.reset.halted = false ∧
    State.reset.fatal = none ∧ State.reset.cfgAddr = none ∧ State.reset.spin = 0 ∧ State.reset.seq = .idle ∧
    State.reset.trace = [] ∧ State.reset.result = none ∧ Ready State.reset

/-- The invariant holds at reset. The reset values are the spec's own decision D23. -/
def Obligations.ResetMeetsInvariant : Prop := BlockInv State.reset

/-- Every step keeps the invariant: driver fields, session, halt, sequencer position, configuration address closed
between requests (R24, R25, R26, R206, R241), parameters, result data and request ids. It gathers the spec's plain
rules and its decisions D1, D2, D14, D16, D22 and D23, with the request ids of log 7. -/
def Obligations.StepKeepsInvariant : Prop := ∀ s t, BlockInv s → step s = .next t → BlockInv t

/-- R12, R34: a step records at most one event, after those recorded before, tagged with the latest request's id. The
trace is the spec's own decision D1, the request id the model's (log 7). -/
def Obligations.StepRecordsAtMostOneEvent : Prop :=
  ∀ s t, step s = .next t → t.trace = s.trace ∨ ∃ e, t.trace = s.trace ++ [⟨t.reqId, e⟩]

/-- R34: "No rule of the block reads it": with the oracle's answers given, a step does the same under any history. The
trace is the spec's own decision D1. -/
def Obligations.TraceIsNotRead : Prop :=
  ∀ s t i, s.answers ≠ [] → exec i s = .next t →
    ∃ es, t.trace = s.trace ++ es ∧ ∀ h, exec i { s with trace := h } = .next { t with trace := h ++ es }

/-- R53, R54: the ports, widths and directions of the block, with the fixed values it writes: every event of every
step is one of `AllowedEvent`, and so `cmd + 1`, other busmaster registers and other commands are never accessed.
Offsets and widths are the spec's own decisions D6 and D7. -/
def Obligations.StepsKeepPortDiscipline : Prop :=
  ∀ s t e, BlockInv s → step s = .next t → t.trace = s.trace ++ [e] → AllowedEvent s.params t.driver e.event

/-- R206, R27: `halted` and `fatal` are written only by ATTACH and CLEAR_INTR raising a fatal error, which ends the
request; they are never cleared. The spec's own decision D22. -/
def Obligations.OnlyFatalErrorsHalt : Prop :=
  ∀ s t i, exec i s = .next t → (t.halted ≠ s.halted ∨ t.fatal ≠ s.fatal) →
    ((∃ vendor device tagf, i = .attach vendor device tagf ∧ t.fatal = some .duplicateDevice) ∨
      (i = .clearIntr ∧ t.fatal = some .diskMediaFatal)) ∧
      t.halted = true ∧ t.seq = .idle ∧ ∃ e v, t.fatal = some e ∧ t.result = some ⟨e, v, none⟩

/-- R200's column "raised by": which request can put each error status into the result latch; in a state that meets
the invariant DiskMediaError comes of a read COMPLETE alone (R205). The codes are the spec's own decision D3. -/
def Obligations.ErrorsAreRaisedByTheirRequests : Prop :=
  ∀ s t i r, exec i s = .next t → t.result = some r → s.result ≠ some r →
    match r.status with
    | .ok => True
    | .alignmentError => ∃ tagf reg val, i = .cfgWrite tagf reg val ∧ reg.toNat % 4 ≠ 0
    | .unsupportedDevice => ∃ vendor device tagf, i = .attach vendor device tagf
    | .duplicateDevice => ∃ vendor device tagf, i = .attach vendor device tagf ∧ s.driver ≠ .none
    | .diskAbsent => ∃ vendor device tagf, i = .attach vendor device tagf ∧ t.present = false
    | .diskMediaError => ∃ writing, i = .complete writing ∧ (BlockInv s → writing = false)
    | .diskMediaFatal => i = .clearIntr ∧ NativeInstalled s

/-- No step changes a parameter (R8) or puts a request into the host's list; a step drops at most its head. The two
fields are the model's form of the parameters and the host (log 4, log 3). -/
def Obligations.StepKeepsParametersAndRequests : Prop :=
  ∀ s t, step s = .next t → t.params = s.params ∧
    (t.requests = s.requests ∨ ∃ r, s.requests = r :: t.requests)

/-! ### Frames -/

/-- CFG_READ and CFG_WRITE write nothing but `cfg_addr`, the result latch and their own bookkeeping; CFG_WRITE reads
no port. -/
def Obligations.ConfigRequestsFrame : Prop :=
  ∀ s t i, (∃ tagf reg width, i = .cfgRead tagf reg width) ∨ (∃ tagf reg val, i = .cfgWrite tagf reg val) →
    exec i s = .next t →
    t.params = s.params ∧ t.driver = s.driver ∧ t.present = s.present ∧ t.xfer = s.xfer ∧ t.halted = s.halted ∧
      t.fatal = s.fatal ∧ t.spin = s.spin ∧ t.requests = s.requests ∧
      ((∃ tagf reg val, i = .cfgWrite tagf reg val) → t.answers = s.answers)

/-- TAG_MAKE, TAG_SPLIT and BAR_DECODE write only the result latch and take a request id: no event, no other state. -/
def Obligations.PureRequestsFrame : Prop :=
  ∀ s t i, (∃ bus dev fn, i = .tagMake bus dev fn) ∨ (∃ tag, i = .tagSplit tag) ∨ (∃ raw, i = .barDecode raw) →
    exec i s = .next t → t = { s with reqId := t.reqId, result := t.result }

/-- ATTACH leaves the session and the host's requests alone, and once a driver is installed the driver fields and
`cfg_addr`. -/
def Obligations.AttachFrame : Prop :=
  ∀ s t vendor device tagf, exec (.attach vendor device tagf) s = .next t →
    t.params = s.params ∧ t.xfer = s.xfer ∧ t.requests = s.requests ∧
      (BlockInv s → s.driver ≠ .none → t.driver = s.driver ∧ t.cfgAddr = s.cfgAddr)

/-- START and the two device commands write `spin`, `xfer`, the result latch and the sequencer: every driver field,
`present`, `halted`, `fatal` and `cfg_addr` stay. The device commands also leave `spin` and read no port. -/
def Obligations.StartFrame : Prop :=
  ∀ s t i, (∃ unit writing lba payload, i = .start unit writing lba payload) ∨ i = .ataCmdRead ∨ i = .ataCmdWrite →
    exec i s = .next t →
    t.params = s.params ∧ t.driver = s.driver ∧ t.present = s.present ∧ t.halted = s.halted ∧ t.fatal = s.fatal ∧
      t.cfgAddr = s.cfgAddr ∧ t.requests = s.requests ∧
      (i = .ataCmdRead ∨ i = .ataCmdWrite → t.spin = s.spin ∧ t.answers = s.answers ∧ t.reqId = s.reqId)

/-- COMPLETE writes `spin`, `xfer`, the result latch and the sequencer: every driver field, `present`, `halted`,
`fatal` and `cfg_addr` stay. A write COMPLETE that an idle block runs leaves `spin`, the trace and the answers too. -/
def Obligations.CompleteFrame : Prop :=
  ∀ s t writing, exec (.complete writing) s = .next t →
    t.params = s.params ∧ t.driver = s.driver ∧ t.present = s.present ∧ t.halted = s.halted ∧ t.fatal = s.fatal ∧
      t.cfgAddr = s.cfgAddr ∧ t.requests = s.requests ∧
      (writing = true → s.seq = .idle → t.spin = s.spin ∧ t.trace = s.trace ∧ t.answers = s.answers)

/-- HAS_INTR and CLEAR_INTR leave the driver, `present`, the session, `spin` and `cfg_addr` alone; HAS_INTR also
`halted` and `fatal`. -/
def Obligations.InterruptRequestsFrame : Prop :=
  ∀ s t i, i = .hasIntr ∨ i = .clearIntr → exec i s = .next t →
    t.params = s.params ∧ t.driver = s.driver ∧ t.present = s.present ∧ t.xfer = s.xfer ∧ t.spin = s.spin ∧
      t.cfgAddr = s.cfgAddr ∧ t.requests = s.requests ∧
      (i = .hasIntr → t.halted = s.halted ∧ t.fatal = s.fatal)
end

