-- ==== Sys2Proof/Laws/State.lean ====
section
/-! SUPPORT. One lemma per field per update of State: what the update writes, and that it leaves the other fields alone. -/

namespace Sys2Proof.Machine.State

@[simp] theorem emit_params (s : State) (e : Event) : (s.emit e).params = s.params := rfl
@[simp] theorem emit_driver (s : State) (e : Event) : (s.emit e).driver = s.driver := rfl
@[simp] theorem emit_present (s : State) (e : Event) : (s.emit e).present = s.present := rfl
@[simp] theorem emit_xfer (s : State) (e : Event) : (s.emit e).xfer = s.xfer := rfl
@[simp] theorem emit_halted (s : State) (e : Event) : (s.emit e).halted = s.halted := rfl
@[simp] theorem emit_fatal (s : State) (e : Event) : (s.emit e).fatal = s.fatal := rfl
@[simp] theorem emit_cfgAddr (s : State) (e : Event) : (s.emit e).cfgAddr = s.cfgAddr := rfl
@[simp] theorem emit_spin (s : State) (e : Event) : (s.emit e).spin = s.spin := rfl
@[simp] theorem emit_seq (s : State) (e : Event) : (s.emit e).seq = s.seq := rfl
@[simp] theorem emit_trace (s : State) (e : Event) : (s.emit e).trace = s.trace ++ [⟨s.reqId, e⟩] := rfl
@[simp] theorem emit_result (s : State) (e : Event) : (s.emit e).result = s.result := rfl
@[simp] theorem emit_reqId (s : State) (e : Event) : (s.emit e).reqId = s.reqId := rfl
@[simp] theorem emit_requests (s : State) (e : Event) : (s.emit e).requests = s.requests := rfl
@[simp] theorem emit_answers (s : State) (e : Event) : (s.emit e).answers = s.answers := rfl

@[simp] theorem setSeq_params (s : State) (q : Seq) : (s.setSeq q).params = s.params := rfl
@[simp] theorem setSeq_driver (s : State) (q : Seq) : (s.setSeq q).driver = s.driver := rfl
@[simp] theorem setSeq_present (s : State) (q : Seq) : (s.setSeq q).present = s.present := rfl
@[simp] theorem setSeq_xfer (s : State) (q : Seq) : (s.setSeq q).xfer = s.xfer := rfl
@[simp] theorem setSeq_halted (s : State) (q : Seq) : (s.setSeq q).halted = s.halted := rfl
@[simp] theorem setSeq_fatal (s : State) (q : Seq) : (s.setSeq q).fatal = s.fatal := rfl
@[simp] theorem setSeq_cfgAddr (s : State) (q : Seq) : (s.setSeq q).cfgAddr = s.cfgAddr := rfl
@[simp] theorem setSeq_spin (s : State) (q : Seq) : (s.setSeq q).spin = s.spin := rfl
@[simp] theorem setSeq_seq (s : State) (q : Seq) : (s.setSeq q).seq = q := rfl
@[simp] theorem setSeq_trace (s : State) (q : Seq) : (s.setSeq q).trace = s.trace := rfl
@[simp] theorem setSeq_result (s : State) (q : Seq) : (s.setSeq q).result = s.result := rfl
@[simp] theorem setSeq_reqId (s : State) (q : Seq) : (s.setSeq q).reqId = s.reqId := rfl
@[simp] theorem setSeq_requests (s : State) (q : Seq) : (s.setSeq q).requests = s.requests := rfl
@[simp] theorem setSeq_answers (s : State) (q : Seq) : (s.setSeq q).answers = s.answers := rfl

@[simp] theorem setCfgAddr_params (s : State) (a : Word) : (s.setCfgAddr a).params = s.params := rfl
@[simp] theorem setCfgAddr_driver (s : State) (a : Word) : (s.setCfgAddr a).driver = s.driver := rfl
@[simp] theorem setCfgAddr_present (s : State) (a : Word) : (s.setCfgAddr a).present = s.present := rfl
@[simp] theorem setCfgAddr_xfer (s : State) (a : Word) : (s.setCfgAddr a).xfer = s.xfer := rfl
@[simp] theorem setCfgAddr_halted (s : State) (a : Word) : (s.setCfgAddr a).halted = s.halted := rfl
@[simp] theorem setCfgAddr_fatal (s : State) (a : Word) : (s.setCfgAddr a).fatal = s.fatal := rfl
@[simp] theorem setCfgAddr_cfgAddr (s : State) (a : Word) : (s.setCfgAddr a).cfgAddr = some a := rfl
@[simp] theorem setCfgAddr_spin (s : State) (a : Word) : (s.setCfgAddr a).spin = s.spin := rfl
@[simp] theorem setCfgAddr_seq (s : State) (a : Word) : (s.setCfgAddr a).seq = s.seq := rfl
@[simp] theorem setCfgAddr_trace (s : State) (a : Word) : (s.setCfgAddr a).trace = s.trace := rfl
@[simp] theorem setCfgAddr_result (s : State) (a : Word) : (s.setCfgAddr a).result = s.result := rfl
@[simp] theorem setCfgAddr_reqId (s : State) (a : Word) : (s.setCfgAddr a).reqId = s.reqId := rfl
@[simp] theorem setCfgAddr_requests (s : State) (a : Word) : (s.setCfgAddr a).requests = s.requests := rfl
@[simp] theorem setCfgAddr_answers (s : State) (a : Word) : (s.setCfgAddr a).answers = s.answers := rfl

@[simp] theorem setSpin_params (s : State) (n : Nat) : (s.setSpin n).params = s.params := rfl
@[simp] theorem setSpin_driver (s : State) (n : Nat) : (s.setSpin n).driver = s.driver := rfl
@[simp] theorem setSpin_present (s : State) (n : Nat) : (s.setSpin n).present = s.present := rfl
@[simp] theorem setSpin_xfer (s : State) (n : Nat) : (s.setSpin n).xfer = s.xfer := rfl
@[simp] theorem setSpin_halted (s : State) (n : Nat) : (s.setSpin n).halted = s.halted := rfl
@[simp] theorem setSpin_fatal (s : State) (n : Nat) : (s.setSpin n).fatal = s.fatal := rfl
@[simp] theorem setSpin_cfgAddr (s : State) (n : Nat) : (s.setSpin n).cfgAddr = s.cfgAddr := rfl
@[simp] theorem setSpin_spin (s : State) (n : Nat) : (s.setSpin n).spin = n := rfl
@[simp] theorem setSpin_seq (s : State) (n : Nat) : (s.setSpin n).seq = s.seq := rfl
@[simp] theorem setSpin_trace (s : State) (n : Nat) : (s.setSpin n).trace = s.trace := rfl
@[simp] theorem setSpin_result (s : State) (n : Nat) : (s.setSpin n).result = s.result := rfl
@[simp] theorem setSpin_reqId (s : State) (n : Nat) : (s.setSpin n).reqId = s.reqId := rfl
@[simp] theorem setSpin_requests (s : State) (n : Nat) : (s.setSpin n).requests = s.requests := rfl
@[simp] theorem setSpin_answers (s : State) (n : Nat) : (s.setSpin n).answers = s.answers := rfl

@[simp] theorem setDriver_params (s : State) (d : Driver) : (s.setDriver d).params = s.params := rfl
@[simp] theorem setDriver_driver (s : State) (d : Driver) : (s.setDriver d).driver = d := rfl
@[simp] theorem setDriver_present (s : State) (d : Driver) : (s.setDriver d).present = s.present := rfl
@[simp] theorem setDriver_xfer (s : State) (d : Driver) : (s.setDriver d).xfer = s.xfer := rfl
@[simp] theorem setDriver_halted (s : State) (d : Driver) : (s.setDriver d).halted = s.halted := rfl
@[simp] theorem setDriver_fatal (s : State) (d : Driver) : (s.setDriver d).fatal = s.fatal := rfl
@[simp] theorem setDriver_cfgAddr (s : State) (d : Driver) : (s.setDriver d).cfgAddr = s.cfgAddr := rfl
@[simp] theorem setDriver_spin (s : State) (d : Driver) : (s.setDriver d).spin = s.spin := rfl
@[simp] theorem setDriver_seq (s : State) (d : Driver) : (s.setDriver d).seq = s.seq := rfl
@[simp] theorem setDriver_trace (s : State) (d : Driver) : (s.setDriver d).trace = s.trace := rfl
@[simp] theorem setDriver_result (s : State) (d : Driver) : (s.setDriver d).result = s.result := rfl
@[simp] theorem setDriver_reqId (s : State) (d : Driver) : (s.setDriver d).reqId = s.reqId := rfl
@[simp] theorem setDriver_requests (s : State) (d : Driver) : (s.setDriver d).requests = s.requests := rfl
@[simp] theorem setDriver_answers (s : State) (d : Driver) : (s.setDriver d).answers = s.answers := rfl

@[simp] theorem setPresent_params (s : State) (b : Bool) : (s.setPresent b).params = s.params := rfl
@[simp] theorem setPresent_driver (s : State) (b : Bool) : (s.setPresent b).driver = s.driver := rfl
@[simp] theorem setPresent_present (s : State) (b : Bool) : (s.setPresent b).present = b := rfl
@[simp] theorem setPresent_xfer (s : State) (b : Bool) : (s.setPresent b).xfer = s.xfer := rfl
@[simp] theorem setPresent_halted (s : State) (b : Bool) : (s.setPresent b).halted = s.halted := rfl
@[simp] theorem setPresent_fatal (s : State) (b : Bool) : (s.setPresent b).fatal = s.fatal := rfl
@[simp] theorem setPresent_cfgAddr (s : State) (b : Bool) : (s.setPresent b).cfgAddr = s.cfgAddr := rfl
@[simp] theorem setPresent_spin (s : State) (b : Bool) : (s.setPresent b).spin = s.spin := rfl
@[simp] theorem setPresent_seq (s : State) (b : Bool) : (s.setPresent b).seq = s.seq := rfl
@[simp] theorem setPresent_trace (s : State) (b : Bool) : (s.setPresent b).trace = s.trace := rfl
@[simp] theorem setPresent_result (s : State) (b : Bool) : (s.setPresent b).result = s.result := rfl
@[simp] theorem setPresent_reqId (s : State) (b : Bool) : (s.setPresent b).reqId = s.reqId := rfl
@[simp] theorem setPresent_requests (s : State) (b : Bool) : (s.setPresent b).requests = s.requests := rfl
@[simp] theorem setPresent_answers (s : State) (b : Bool) : (s.setPresent b).answers = s.answers := rfl

@[simp] theorem setXfer_params (s : State) (x : Xfer) : (s.setXfer x).params = s.params := rfl
@[simp] theorem setXfer_driver (s : State) (x : Xfer) : (s.setXfer x).driver = s.driver := rfl
@[simp] theorem setXfer_present (s : State) (x : Xfer) : (s.setXfer x).present = s.present := rfl
@[simp] theorem setXfer_xfer (s : State) (x : Xfer) : (s.setXfer x).xfer = x := rfl
@[simp] theorem setXfer_halted (s : State) (x : Xfer) : (s.setXfer x).halted = s.halted := rfl
@[simp] theorem setXfer_fatal (s : State) (x : Xfer) : (s.setXfer x).fatal = s.fatal := rfl
@[simp] theorem setXfer_cfgAddr (s : State) (x : Xfer) : (s.setXfer x).cfgAddr = s.cfgAddr := rfl
@[simp] theorem setXfer_spin (s : State) (x : Xfer) : (s.setXfer x).spin = s.spin := rfl
@[simp] theorem setXfer_seq (s : State) (x : Xfer) : (s.setXfer x).seq = s.seq := rfl
@[simp] theorem setXfer_trace (s : State) (x : Xfer) : (s.setXfer x).trace = s.trace := rfl
@[simp] theorem setXfer_result (s : State) (x : Xfer) : (s.setXfer x).result = s.result := rfl
@[simp] theorem setXfer_reqId (s : State) (x : Xfer) : (s.setXfer x).reqId = s.reqId := rfl
@[simp] theorem setXfer_requests (s : State) (x : Xfer) : (s.setXfer x).requests = s.requests := rfl
@[simp] theorem setXfer_answers (s : State) (x : Xfer) : (s.setXfer x).answers = s.answers := rfl

@[simp] theorem setResult_params (s : State) (r : Result) : (s.setResult r).params = s.params := rfl
@[simp] theorem setResult_driver (s : State) (r : Result) : (s.setResult r).driver = s.driver := rfl
@[simp] theorem setResult_present (s : State) (r : Result) : (s.setResult r).present = s.present := rfl
@[simp] theorem setResult_xfer (s : State) (r : Result) : (s.setResult r).xfer = s.xfer := rfl
@[simp] theorem setResult_halted (s : State) (r : Result) : (s.setResult r).halted = s.halted := rfl
@[simp] theorem setResult_fatal (s : State) (r : Result) : (s.setResult r).fatal = s.fatal := rfl
@[simp] theorem setResult_cfgAddr (s : State) (r : Result) : (s.setResult r).cfgAddr = s.cfgAddr := rfl
@[simp] theorem setResult_spin (s : State) (r : Result) : (s.setResult r).spin = s.spin := rfl
@[simp] theorem setResult_seq (s : State) (r : Result) : (s.setResult r).seq = s.seq := rfl
@[simp] theorem setResult_trace (s : State) (r : Result) : (s.setResult r).trace = s.trace := rfl
@[simp] theorem setResult_result (s : State) (r : Result) : (s.setResult r).result = some r := rfl
@[simp] theorem setResult_reqId (s : State) (r : Result) : (s.setResult r).reqId = s.reqId := rfl
@[simp] theorem setResult_requests (s : State) (r : Result) : (s.setResult r).requests = s.requests := rfl
@[simp] theorem setResult_answers (s : State) (r : Result) : (s.setResult r).answers = s.answers := rfl

@[simp] theorem setFatal_params (s : State) (e : Status) : (s.setFatal e).params = s.params := rfl
@[simp] theorem setFatal_driver (s : State) (e : Status) : (s.setFatal e).driver = s.driver := rfl
@[simp] theorem setFatal_present (s : State) (e : Status) : (s.setFatal e).present = s.present := rfl
@[simp] theorem setFatal_xfer (s : State) (e : Status) : (s.setFatal e).xfer = s.xfer := rfl
@[simp] theorem setFatal_halted (s : State) (e : Status) : (s.setFatal e).halted = true := rfl
@[simp] theorem setFatal_fatal (s : State) (e : Status) : (s.setFatal e).fatal = some e := rfl
@[simp] theorem setFatal_cfgAddr (s : State) (e : Status) : (s.setFatal e).cfgAddr = s.cfgAddr := rfl
@[simp] theorem setFatal_spin (s : State) (e : Status) : (s.setFatal e).spin = s.spin := rfl
@[simp] theorem setFatal_seq (s : State) (e : Status) : (s.setFatal e).seq = s.seq := rfl
@[simp] theorem setFatal_trace (s : State) (e : Status) : (s.setFatal e).trace = s.trace := rfl
@[simp] theorem setFatal_result (s : State) (e : Status) : (s.setFatal e).result = s.result := rfl
@[simp] theorem setFatal_reqId (s : State) (e : Status) : (s.setFatal e).reqId = s.reqId := rfl
@[simp] theorem setFatal_requests (s : State) (e : Status) : (s.setFatal e).requests = s.requests := rfl
@[simp] theorem setFatal_answers (s : State) (e : Status) : (s.setFatal e).answers = s.answers := rfl

@[simp] theorem nextId_params (s : State) : (s.nextId).params = s.params := rfl
@[simp] theorem nextId_driver (s : State) : (s.nextId).driver = s.driver := rfl
@[simp] theorem nextId_present (s : State) : (s.nextId).present = s.present := rfl
@[simp] theorem nextId_xfer (s : State) : (s.nextId).xfer = s.xfer := rfl
@[simp] theorem nextId_halted (s : State) : (s.nextId).halted = s.halted := rfl
@[simp] theorem nextId_fatal (s : State) : (s.nextId).fatal = s.fatal := rfl
@[simp] theorem nextId_cfgAddr (s : State) : (s.nextId).cfgAddr = s.cfgAddr := rfl
@[simp] theorem nextId_spin (s : State) : (s.nextId).spin = s.spin := rfl
@[simp] theorem nextId_seq (s : State) : (s.nextId).seq = s.seq := rfl
@[simp] theorem nextId_trace (s : State) : (s.nextId).trace = s.trace := rfl
@[simp] theorem nextId_result (s : State) : (s.nextId).result = s.result := rfl
@[simp] theorem nextId_reqId (s : State) : (s.nextId).reqId = s.reqId + 1 := rfl
@[simp] theorem nextId_requests (s : State) : (s.nextId).requests = s.requests := rfl
@[simp] theorem nextId_answers (s : State) : (s.nextId).answers = s.answers := rfl

@[simp] theorem setRequests_params (s : State) (rs : List Request) : (s.setRequests rs).params = s.params := rfl
@[simp] theorem setRequests_driver (s : State) (rs : List Request) : (s.setRequests rs).driver = s.driver := rfl
@[simp] theorem setRequests_present (s : State) (rs : List Request) : (s.setRequests rs).present = s.present := rfl
@[simp] theorem setRequests_xfer (s : State) (rs : List Request) : (s.setRequests rs).xfer = s.xfer := rfl
@[simp] theorem setRequests_halted (s : State) (rs : List Request) : (s.setRequests rs).halted = s.halted := rfl
@[simp] theorem setRequests_fatal (s : State) (rs : List Request) : (s.setRequests rs).fatal = s.fatal := rfl
@[simp] theorem setRequests_cfgAddr (s : State) (rs : List Request) : (s.setRequests rs).cfgAddr = s.cfgAddr := rfl
@[simp] theorem setRequests_spin (s : State) (rs : List Request) : (s.setRequests rs).spin = s.spin := rfl
@[simp] theorem setRequests_seq (s : State) (rs : List Request) : (s.setRequests rs).seq = s.seq := rfl
@[simp] theorem setRequests_trace (s : State) (rs : List Request) : (s.setRequests rs).trace = s.trace := rfl
@[simp] theorem setRequests_result (s : State) (rs : List Request) : (s.setRequests rs).result = s.result := rfl
@[simp] theorem setRequests_reqId (s : State) (rs : List Request) : (s.setRequests rs).reqId = s.reqId := rfl
@[simp] theorem setRequests_requests (s : State) (rs : List Request) : (s.setRequests rs).requests = rs := rfl
@[simp] theorem setRequests_answers (s : State) (rs : List Request) : (s.setRequests rs).answers = s.answers := rfl

@[simp] theorem dropAnswer_params (s : State) : (s.dropAnswer).params = s.params := rfl
@[simp] theorem dropAnswer_driver (s : State) : (s.dropAnswer).driver = s.driver := rfl
@[simp] theorem dropAnswer_present (s : State) : (s.dropAnswer).present = s.present := rfl
@[simp] theorem dropAnswer_xfer (s : State) : (s.dropAnswer).xfer = s.xfer := rfl
@[simp] theorem dropAnswer_halted (s : State) : (s.dropAnswer).halted = s.halted := rfl
@[simp] theorem dropAnswer_fatal (s : State) : (s.dropAnswer).fatal = s.fatal := rfl
@[simp] theorem dropAnswer_cfgAddr (s : State) : (s.dropAnswer).cfgAddr = s.cfgAddr := rfl
@[simp] theorem dropAnswer_spin (s : State) : (s.dropAnswer).spin = s.spin := rfl
@[simp] theorem dropAnswer_seq (s : State) : (s.dropAnswer).seq = s.seq := rfl
@[simp] theorem dropAnswer_trace (s : State) : (s.dropAnswer).trace = s.trace := rfl
@[simp] theorem dropAnswer_result (s : State) : (s.dropAnswer).result = s.result := rfl
@[simp] theorem dropAnswer_reqId (s : State) : (s.dropAnswer).reqId = s.reqId := rfl
@[simp] theorem dropAnswer_requests (s : State) : (s.dropAnswer).requests = s.requests := rfl
@[simp] theorem dropAnswer_answers (s : State) : (s.dropAnswer).answers = s.answers.tail := rfl

@[simp] theorem afterIn1_params (s : State) (p : Port) : (s.afterIn1 p).params = s.params := rfl
@[simp] theorem afterIn1_driver (s : State) (p : Port) : (s.afterIn1 p).driver = s.driver := rfl
@[simp] theorem afterIn1_present (s : State) (p : Port) : (s.afterIn1 p).present = s.present := rfl
@[simp] theorem afterIn1_xfer (s : State) (p : Port) : (s.afterIn1 p).xfer = s.xfer := rfl
@[simp] theorem afterIn1_halted (s : State) (p : Port) : (s.afterIn1 p).halted = s.halted := rfl
@[simp] theorem afterIn1_fatal (s : State) (p : Port) : (s.afterIn1 p).fatal = s.fatal := rfl
@[simp] theorem afterIn1_cfgAddr (s : State) (p : Port) : (s.afterIn1 p).cfgAddr = s.cfgAddr := rfl
@[simp] theorem afterIn1_spin (s : State) (p : Port) : (s.afterIn1 p).spin = s.spin := rfl
@[simp] theorem afterIn1_seq (s : State) (p : Port) : (s.afterIn1 p).seq = s.seq := rfl
@[simp] theorem afterIn1_trace (s : State) (p : Port) : (s.afterIn1 p).trace = s.trace ++ [⟨s.reqId, .in1 p (s.in1 p)⟩] := rfl
@[simp] theorem afterIn1_result (s : State) (p : Port) : (s.afterIn1 p).result = s.result := rfl
@[simp] theorem afterIn1_reqId (s : State) (p : Port) : (s.afterIn1 p).reqId = s.reqId := rfl
@[simp] theorem afterIn1_requests (s : State) (p : Port) : (s.afterIn1 p).requests = s.requests := rfl
@[simp] theorem afterIn1_answers (s : State) (p : Port) : (s.afterIn1 p).answers = s.answers.tail := rfl

@[simp] theorem afterIn4_params (s : State) (p : Port) : (s.afterIn4 p).params = s.params := rfl
@[simp] theorem afterIn4_driver (s : State) (p : Port) : (s.afterIn4 p).driver = s.driver := rfl
@[simp] theorem afterIn4_present (s : State) (p : Port) : (s.afterIn4 p).present = s.present := rfl
@[simp] theorem afterIn4_xfer (s : State) (p : Port) : (s.afterIn4 p).xfer = s.xfer := rfl
@[simp] theorem afterIn4_halted (s : State) (p : Port) : (s.afterIn4 p).halted = s.halted := rfl
@[simp] theorem afterIn4_fatal (s : State) (p : Port) : (s.afterIn4 p).fatal = s.fatal := rfl
@[simp] theorem afterIn4_cfgAddr (s : State) (p : Port) : (s.afterIn4 p).cfgAddr = s.cfgAddr := rfl
@[simp] theorem afterIn4_spin (s : State) (p : Port) : (s.afterIn4 p).spin = s.spin := rfl
@[simp] theorem afterIn4_seq (s : State) (p : Port) : (s.afterIn4 p).seq = s.seq := rfl
@[simp] theorem afterIn4_trace (s : State) (p : Port) : (s.afterIn4 p).trace = s.trace ++ [⟨s.reqId, .in4 p (s.in4 p)⟩] := rfl
@[simp] theorem afterIn4_result (s : State) (p : Port) : (s.afterIn4 p).result = s.result := rfl
@[simp] theorem afterIn4_reqId (s : State) (p : Port) : (s.afterIn4 p).reqId = s.reqId := rfl
@[simp] theorem afterIn4_requests (s : State) (p : Port) : (s.afterIn4 p).requests = s.requests := rfl
@[simp] theorem afterIn4_answers (s : State) (p : Port) : (s.afterIn4 p).answers = s.answers.tail := rfl

@[simp] theorem openConfig_params (s : State) (a : Word) : (openConfig a s).params = s.params := rfl
@[simp] theorem openConfig_driver (s : State) (a : Word) : (openConfig a s).driver = s.driver := rfl
@[simp] theorem openConfig_present (s : State) (a : Word) : (openConfig a s).present = s.present := rfl
@[simp] theorem openConfig_xfer (s : State) (a : Word) : (openConfig a s).xfer = s.xfer := rfl
@[simp] theorem openConfig_halted (s : State) (a : Word) : (openConfig a s).halted = s.halted := rfl
@[simp] theorem openConfig_fatal (s : State) (a : Word) : (openConfig a s).fatal = s.fatal := rfl
@[simp] theorem openConfig_cfgAddr (s : State) (a : Word) : (openConfig a s).cfgAddr = some a := rfl
@[simp] theorem openConfig_spin (s : State) (a : Word) : (openConfig a s).spin = s.spin := rfl
@[simp] theorem openConfig_seq (s : State) (a : Word) : (openConfig a s).seq = s.seq := rfl
@[simp] theorem openConfig_trace (s : State) (a : Word) : (openConfig a s).trace = s.trace ++ [⟨s.reqId, .out4 Config.cfgAddrPort a⟩] := rfl
@[simp] theorem openConfig_result (s : State) (a : Word) : (openConfig a s).result = s.result := rfl
@[simp] theorem openConfig_reqId (s : State) (a : Word) : (openConfig a s).reqId = s.reqId := rfl
@[simp] theorem openConfig_requests (s : State) (a : Word) : (openConfig a s).requests = s.requests := rfl
@[simp] theorem openConfig_answers (s : State) (a : Word) : (openConfig a s).answers = s.answers := rfl

@[simp] theorem closeConfig_params (s : State) : (closeConfig s).params = s.params := rfl
@[simp] theorem closeConfig_driver (s : State) : (closeConfig s).driver = s.driver := rfl
@[simp] theorem closeConfig_present (s : State) : (closeConfig s).present = s.present := rfl
@[simp] theorem closeConfig_xfer (s : State) : (closeConfig s).xfer = s.xfer := rfl
@[simp] theorem closeConfig_halted (s : State) : (closeConfig s).halted = s.halted := rfl
@[simp] theorem closeConfig_fatal (s : State) : (closeConfig s).fatal = s.fatal := rfl
@[simp] theorem closeConfig_cfgAddr (s : State) : (closeConfig s).cfgAddr = some 0 := rfl
@[simp] theorem closeConfig_spin (s : State) : (closeConfig s).spin = s.spin := rfl
@[simp] theorem closeConfig_seq (s : State) : (closeConfig s).seq = s.seq := rfl
@[simp] theorem closeConfig_trace (s : State) : (closeConfig s).trace = s.trace ++ [⟨s.reqId, .out4 Config.cfgAddrPort 0⟩] := rfl
@[simp] theorem closeConfig_result (s : State) : (closeConfig s).result = s.result := rfl
@[simp] theorem closeConfig_reqId (s : State) : (closeConfig s).reqId = s.reqId := rfl
@[simp] theorem closeConfig_requests (s : State) : (closeConfig s).requests = s.requests := rfl
@[simp] theorem closeConfig_answers (s : State) : (closeConfig s).answers = s.answers := rfl

end Sys2Proof.Machine.State
end

