-- ==== Sys2Proof/Laws/Ops.lean ====
section
/-! SUPPORT. For each shared operation, one lemma that says what it answers, so that no proof unfolds it again. -/

namespace Sys2Proof.Machine

/-- A read that the oracle's list answers returns the head of the list. -/
theorem answer_cons {s : State} {a : Word} {as : List Word} (h : s.answers = a :: as) (port : Port) (n : Nat) :
    s.answer port n = a := by simp [State.answer, h]

theorem goto_eq_next {i : Instr} {k : Pos} {s t : State} : goto i k s = .next t ↔ s.setSeq (.run i k) = t := by
  simp [goto]

theorem finish_eq_next {v : Word} {data : Option (List Byte)} {s t : State} :
    finish v data s = .next t ↔ (s.setResult ⟨.ok, v, data⟩).setSeq .idle = t := by simp [finish]

theorem raise_of_not_fatal {e : Status} (h : e.isFatal = false) (v : Word) (s : State) :
    raise e v s = .next ((s.setResult ⟨e, v, none⟩).setSeq .idle) := by simp [raise, h]

theorem raise_of_fatal {e : Status} (h : e.isFatal = true) (v : Word) (s : State) :
    raise e v s = .next (((s.setResult ⟨e, v, none⟩).setSeq .idle).setFatal e) := by simp [raise, h]

theorem refuseUnless_eq_none {c : Bool} {r : Refusal} {rest : Option Refusal} :
    refuseUnless c r rest = none ↔ c = true ∧ rest = none := by
  cases c <;> simp [refuseUnless]

/-- A request an idle block does not refuse is accepted. -/
theorem onRequest_ready {i : Instr} {check : State → Option Refusal} {start : State → Out} {go : Pos → State → Out}
    {s : State} (h : Ready s) (hc : check s = none) : onRequest i check start go s = start s.nextId := by
  simp [onRequest, h.1, h.2, hc]

theorem onRequest_refused {i : Instr} {check : State → Option Refusal} {start : State → Out} {go : Pos → State → Out}
    {s : State} {r : Refusal} (h : Ready s) (hc : check s = some r) : onRequest i check start go s = .refused r := by
  simp [onRequest, h.1, h.2, hc]

/-- The running request takes its next event. -/
theorem onRequest_running {i : Instr} {check : State → Option Refusal} {start : State → Out} {go : Pos → State → Out}
    {k : Pos} {s : State} (h : Running i k s) : onRequest i check start go s = go k s := by
  simp [onRequest, h.1, h.2]

/-- A request offered while another runs is held. -/
theorem onRequest_held {i j : Instr} {check : State → Option Refusal} {start : State → Out} {go : Pos → State → Out}
    {k : Pos} {s : State} (h : Running j k s) (hij : j ≠ i) : onRequest i check start go s = .next s := by
  simp [onRequest, h.1, h.2, hij]

theorem onRequest_halted {i : Instr} {check : State → Option Refusal} {start : State → Out} {go : Pos → State → Out}
    {s : State} (h : s.halted = true) : onRequest i check start go s = .fault .halted := by
  simp [onRequest, h]

/-- Everything `onRequest` can do when it answers a next state. -/
theorem onRequest_eq_next {i : Instr} {check : State → Option Refusal} {start : State → Out} {go : Pos → State → Out}
    {s t : State} (h : onRequest i check start go s = .next t) :
    (Ready s ∧ check s = none ∧ start s.nextId = .next t) ∨ (∃ k, Running i k s ∧ go k s = .next t) ∨
      (∃ j k, Running j k s ∧ j ≠ i ∧ t = s) := by
  unfold onRequest at h
  split at h
  · cases h
  · next hh =>
    replace hh : s.halted = false := by simpa using hh
    split at h
    · next j k hs =>
      split at h
      · next hj => exact .inr (.inl ⟨k, ⟨hh, hj ▸ hs⟩, h⟩)
      · next hj => cases h; exact .inr (.inr ⟨j, k, ⟨hh, hs⟩, hj, rfl⟩)
    · next hs =>
      split at h
      · cases h
      · next hc => exact .inl ⟨⟨hh, hs⟩, hc, h⟩

/-- `withBases` runs its body on the installed driver's bases. -/
theorem withBases_eq {f : Bases → Out} {s : State} {b : Bases} (h : s.driver.bases = some b) :
    withBases f s = f b := by simp [withBases, h]

theorem withBases_eq_next {f : Bases → Out} {s t : State} (h : withBases f s = .next t) :
    ∃ b, s.driver.bases = some b ∧ f b = .next t := by
  unfold withBases at h
  split at h
  · next b hb => exact ⟨b, hb, h⟩
  · cases h

theorem withNative_eq {f : Bases → Port → Out} {s : State} {b : Bases} {bm : Port} (h : s.driver = .native b bm) :
    withNative f s = f b bm := by simp [withNative, h]

theorem withNative_eq_next {f : Bases → Port → Out} {s t : State} (h : withNative f s = .next t) :
    ∃ b bm, s.driver = .native b bm ∧ f b bm = .next t := by
  unfold withNative at h
  split at h
  · next b bm hd => exact ⟨b, bm, hd, h⟩
  · cases h
  · cases h

/-- Everything an event of a configuration read can do (R101). -/
theorem configRead_eq_next {i : Instr} {tag : Word} {reg : BitVec 8} {at_ : CfgPhase → Pos}
    {done : Word → State → Out} {p : CfgPhase} {s t : State} (h : configRead i tag reg at_ done p s = .next t) :
    (p = .address ∧ t = (openConfig (cfgAddrWord tag reg) s).setSeq (.run i (at_ .data))) ∨
      (p = .data ∧ t = (s.afterIn4 Config.cfgDataPort).setSeq (.run i (at_ (.close (s.in4 Config.cfgDataPort))))) ∨
      (∃ v, p = .close v ∧ done v (closeConfig s) = .next t) := by
  cases p with
  | address => exact .inl ⟨rfl, (goto_eq_next.1 h).symm⟩
  | data => exact .inr (.inl ⟨rfl, (goto_eq_next.1 h).symm⟩)
  | close v => exact .inr (.inr ⟨v, rfl, h⟩)

/-- Everything an event of a status wait can do (R140): the read that ends it, a failed read, or the diagnostic. -/
theorem statusWait_eq_next {i : Instr} {b : Bases} {at_ : WaitPhase → Pos} {done : Byte → Bool}
    {exit : Byte → State → Out} {p : WaitPhase} {s t : State} (h : statusWait i b at_ done exit p s = .next t) :
    (p = .read ∧ done (s.in1 (taskReg b 7)) = true ∧
        exit (s.in1 (taskReg b 7)) (s.afterIn1 (taskReg b 7)) = .next t) ∨
      (p = .read ∧ done (s.in1 (taskReg b 7)) = false ∧
        t = ((s.afterIn1 (taskReg b 7)).setSpin (s.spin + 1)).setSeq
          (.run i (at_ (afterFailed s.params.warnInterval (s.spin + 1))))) ∨
      (p = .diag ∧ t = (s.emit (.diag b.cmd)).setSeq (.run i (at_ .read))) := by
  cases p with
  | read =>
    simp only [statusWait] at h
    split at h
    · next hd => exact .inl ⟨rfl, hd, h⟩
    · next hd => exact .inr (.inl ⟨rfl, by simpa using hd, (goto_eq_next.1 h).symm⟩)
  | diag => exact .inr (.inr ⟨rfl, (goto_eq_next.1 h).symm⟩)

/-- A halted block runs nothing (R206). -/
theorem exec_halted {s : State} (h : s.halted = true) (i : Instr) : exec i s = .fault .halted := by
  cases i <;>
    simp [exec, execCfgRead, execCfgWrite, execTagMake, execTagSplit, execBarDecode, execAttach, execStart, execComplete,
      execHasIntr, execClearIntr, execAtaCmdRead, execAtaCmdWrite, deviceCommand, onRequest, h]

/-- Everything `step` can do when it answers a next state: wait, run the host's next request, or go on with the running
one. -/
theorem step_eq_next {s t : State} (h : step s = .next t) :
    (Ready s ∧ s.requests = [] ∧ t = s) ∨
      (∃ r rs i, Ready s ∧ s.requests = r :: rs ∧ decode (.request r) = .ok i ∧ exec i (s.setRequests rs) = .next t) ∨
      (∃ i k, Running i k s ∧ exec (runningInstr i k) s = .next t) := by
  unfold step at h
  split at h
  · cases h
  · next hh =>
    replace hh : s.halted = false := by simpa using hh
    unfold fetch at h
    split at h
    · next hf =>
      split at hf
      · cases hf
      · next hs =>
        split at hf
        · next hr => cases h; exact .inl ⟨⟨hh, hs⟩, hr, rfl⟩
        · split at hf <;> cases hf
    · cases h
    · next i u hf =>
      split at hf
      · next j k hs => cases hf; exact .inr (.inr ⟨j, k, ⟨hh, hs⟩, h⟩)
      · next hs =>
        split at hf
        · cases hf
        · next r rs hr =>
          split at hf
          · next j hd => cases hf; exact .inr (.inl ⟨r, rs, i, ⟨hh, hs⟩, hr, hd, h⟩)
          · cases hf

end Sys2Proof.Machine
end

