-- ==== Sys2Proof/Laws/PerInstr.lean ====
section
/-! SUPPORT. Per-instruction laws of the syntax. Family `EncodingFitsTable`: every encoding matches a row of
spec/opcode_table.json by its match and mask (30_encoding.md R71, R82). -/

namespace Sys2Proof.Laws.EncodingFitsTable

/-- The code matches the row: `H & mask = match`, or for ATA_CMD8 the byte itself. -/
def Fits (m mask : Nat) : Code → Prop
  | .request r => r.header &&& BitVec.ofNat 64 mask = BitVec.ofNat 64 m
  | .command b => b &&& BitVec.ofNat 8 mask = BitVec.ofNat 8 m

/-- The encoding of the instruction matches its own row of the table. -/
def Statement (i : Instr) : Prop :=
  match i with
  | .cfgRead _ _ _ => Fits 0x01 0xFFFFFFF8000000FF (encode i)
  | .cfgWrite _ _ _ => Fits 0x02 0xFF (encode i)
  | .tagMake _ _ _ => Fits 0x03 0xFFFFFFFFFF0000FF (encode i)
  | .tagSplit _ => Fits 0x04 0xFFFFFF00000000FF (encode i)
  | .barDecode _ => Fits 0x05 0xFFFFFF00000000FF (encode i)
  | .attach _ _ _ => Fits 0x10 0xFF000000000000FF (encode i)
  | .start _ _ _ _ => Fits 0x20 0xFFFFFF0000000CFF (encode i)
  | .complete _ => Fits 0x21 0xFFFFFFFFFFFFFEFF (encode i)
  | .hasIntr => Fits 0x30 0xFFFFFFFFFFFFFFFF (encode i)
  | .clearIntr => Fits 0x31 0xFFFFFFFFFFFFFFFF (encode i)
  | .ataCmdRead => Fits 0x20 0xFF (encode i)
  | .ataCmdWrite => Fits 0x30 0xFF (encode i)

/-- Two headers are equal when their 64 bits are. -/
theorem header_ext {a b : Header} (h : ∀ n, n < 64 → a.getLsbD n = b.getLsbD n) : a = b :=
  BitVec.eq_of_getLsbD_eq h

theorem cfgRead (tagf : BitVec 16) (reg : BitVec 8) (width : BitVec 3) : Statement (.cfgRead tagf reg width) := by
  refine header_ext fun n hn => ?_
  interval_cases n <;> simp [place]

theorem cfgWrite (tagf : BitVec 16) (reg : BitVec 8) (val : Word) : Statement (.cfgWrite tagf reg val) := by
  refine header_ext fun n hn => ?_
  interval_cases n <;> simp [place]

theorem tagMake (bus : BitVec 8) (dev : BitVec 5) (fn : BitVec 3) : Statement (.tagMake bus dev fn) := by
  refine header_ext fun n hn => ?_
  interval_cases n <;> simp [place]

theorem tagSplit (tag : Word) : Statement (.tagSplit tag) := by
  refine header_ext fun n hn => ?_
  interval_cases n <;> simp [place]

theorem barDecode (raw : Word) : Statement (.barDecode raw) := by
  refine header_ext fun n hn => ?_
  interval_cases n <;> simp [place]

theorem attach (vendor device tagf : BitVec 16) : Statement (.attach vendor device tagf) := by
  refine header_ext fun n hn => ?_
  interval_cases n <;> simp [place]

theorem start (unit : BitVec 1) (writing : Bool) (lba : BitVec 28) (payload : List Byte) :
    Statement (.start unit writing lba payload) := by
  refine header_ext fun n hn => ?_
  interval_cases n <;> simp [place]

theorem complete (writing : Bool) : Statement (.complete writing) := by
  cases writing <;> (show _ = _; decide)

theorem hasIntr : Statement .hasIntr := by show _ = _; decide

theorem clearIntr : Statement .clearIntr := by show _ = _; decide

theorem ataCmdRead : Statement .ataCmdRead := by show _ = _; decide

theorem ataCmdWrite : Statement .ataCmdWrite := by show _ = _; decide

end Sys2Proof.Laws.EncodingFitsTable
end

