-- ==== Sys2Proof/Tests/Slice0.lean ====
section
/-! SUPPORT. Tests. Expected values are those of spec/95_test_vectors.md (V-…) or worked by hand from the rule named; the
`test_witness_…` theorems show states and operands that meet the hypotheses of the obligation they name. -/

set_option maxRecDepth 20000

namespace Sys2Proof.Tests

open Sys2Proof Sys2Proof.Machine

/-! ### Helpers -/

/-- The step answers a next state with the property. -/
def nextHas (o : Out) (p : State → Bool) : Bool :=
  match o with
  | .next t => p t
  | _ => false

/-- The step is refused for the reason. -/
def refusedFor (o : Out) (r : Refusal) : Bool :=
  match o with
  | .refused q => decide (q = r)
  | _ => false

/-- The step is a fault for the reason. -/
def faultsWith (o : Out) (f : Fault) : Bool :=
  match o with
  | .fault g => decide (g = f)
  | _ => false

/-- The decoder gives the instruction. -/
def decodesTo (h : Header) (payload : List Byte) (i : Instr) : Bool :=
  match decode (.request ⟨h, payload⟩) with
  | .ok j => decide (j = i)
  | .error _ => false

/-- The decoder refuses for the reason. -/
def rejects (h : Header) (payload : List Byte) (e : DecodeError) : Bool :=
  match decode (.request ⟨h, payload⟩) with
  | .ok _ => false
  | .error g => decide (g = e)

/-- The events recorded, without their request ids. -/
def events (s : State) : List Event := s.trace.map Entry.event

/-- A sector of zeros. -/
def zeroSector : List Byte := List.replicate 512 0

/-- After ATTACH of the LEGACY device (95_test_vectors.md V-ATT-2). -/
def legacyState : State := { State.reset with driver := .legacy ⟨0x1F0, 0x3F6, 14⟩, present := true }

/-- After ATTACH of a NATIVE device (V-ATT-3). -/
def nativeState : State := { State.reset with driver := .native ⟨0xC000, 0xC008, 11⟩ 0xC020, present := true }

/-- A state with a request running. -/
def runningAt (s : State) (i : Instr) (k : Pos) (answers : List Word) : State :=
  { s with seq := .run i k, reqId := 1, answers := answers }

/-! ### WellFormed: a term each check refuses -/

theorem test_wf_width : (Instr.cfgRead 0 0 3).wf = false ∧ (Instr.cfgRead 0 0 4).wf = true := by decide
theorem test_wf_tag : (Instr.tagSplit 0x01000000).wf = false ∧ (Instr.tagSplit 0x00FFFF00).wf = true := by decide
theorem test_wf_payload_write :
    (Instr.start 0 true 0 (List.replicate 511 0)).wf = false ∧ (Instr.start 0 true 0 zeroSector).wf = true := by decide
theorem test_wf_payload_read :
    (Instr.start 0 false 0 [0]).wf = false ∧ (Instr.start 0 false 0 []).wf = true := by decide
theorem test_wf_params :
    Params.default.wf = true ∧ Params.wf { Params.default with warnInterval := 0 } = false ∧
      Params.wf { Params.default with attachTable := [⟨1, 2, .legacy⟩, ⟨1, 2, .native⟩] } = false := by decide

/-! ### Decoding: words of 95_test_vectors.md section 2.1, and of 30_encoding.md R82 -/

theorem test_decode_cfgRead :
    decodesTo 0x000000013C001801 [] (.cfgRead 0x0018 0x3C 1) ∧
      decodesTo 0x00000004FFFFFF01 [] (.cfgRead 0xFFFF 0xFF 4) := by decide
theorem test_decode_cfgWrite : decodesTo 0x0000000704000002 [] (.cfgWrite 0 0x04 7) := by decide
theorem test_decode_tagMake :
    decodesTo 0x0000000000FF0003 [] (.tagMake 0 31 7) ∧ decodesTo 0x0000000000620103 [] (.tagMake 1 2 3) := by decide
theorem test_decode_tagSplit : decodesTo 0x0000000000FF0004 [] (.tagSplit 0x0000FF00) := by decide
theorem test_decode_barDecode :
    decodesTo 0x00000000011F0105 [] (.barDecode 0x00011F01) ∧
      decodesTo 0x000000FFFFFFFF05 [] (.barDecode 0xFFFFFFFF) := by decide
theorem test_decode_attach :
    decodesTo 0x0000087000808610 [] (.attach 0x8086 0x7000 0x0008) ∧
      decodesTo 0x0000103B20808610 [] (.attach 0x8086 0x3B20 0x0010) := by decide
theorem test_decode_start :
    decodesTo 0x0000000123456120 [] (.start 1 false 0x123456 []) ∧
      decodesTo 0x000000FFFFFFF320 zeroSector (.start 1 true 0xFFFFFFF zeroSector) := by decide
theorem test_decode_complete :
    decodesTo 0x0000000000000021 [] (.complete false) ∧ decodesTo 0x0000000000000121 [] (.complete true) := by decide
theorem test_decode_interrupt :
    decodesTo 0x0000000000000030 [] .hasIntr ∧ decodesTo 0x0000000000000031 [] .clearIntr := by decide
theorem test_decode_commands :
    (decode (.command 0x20)).toOption = some .ataCmdRead ∧ (decode (.command 0x30)).toOption = some .ataCmdWrite ∧
      (decode (.command 0xE7)).toOption = none := by decide

/-- V-REF-1 to V-REF-3. -/
theorem test_refused_opcode :
    rejects 0x0000000000000000 [] .badOpcode ∧ rejects 0x0000000000000006 [] .badOpcode ∧
      rejects 0x0000000000000400 [] .badOpcode := by decide
/-- V-REF-4 to V-REF-6. -/
theorem test_refused_reserved :
    rejects 0x0000000800000001 [] .nonzeroReserved ∧ rejects 0x0000010000000003 [] .nonzeroReserved ∧
      rejects 0x0000000000000130 [] .nonzeroReserved := by decide
/-- V-REF-7 to V-REF-9. -/
theorem test_refused_width :
    rejects 0x0000000300000001 [] .badWidth ∧ rejects 0x0000000500000001 [] .badWidth ∧
      rejects 0x0000000000000001 [] .badWidth := by decide
/-- V-REF-10, V-REF-11. -/
theorem test_refused_tag :
    rejects 0x0000000000000104 [] .badTag ∧ rejects 0x0000000100000004 [] .badTag := by decide
/-- V-REF-12. -/
theorem test_refused_payload : rejects 0x0000000000000220 (List.replicate 511 0) .badPayload := by decide

/-- The opcode table's words: a header, a command byte, and a byte that is no command. -/
theorem test_table_words :
    decodeTableWord 64 0x0000000000620103 = some (.tagMake 1 2 3) ∧ decodeTableWord 8 0x20 = some .ataCmdRead ∧
      decodeTableWord 8 0x06 = none := by decide

/-! ### The assembler: 95_test_vectors.md section 2.1, 30_encoding.md R88 -/

theorem test_asm_attach :
    assemble Params.default "attach 0x8086, 0x3B20, 0:2.0 ; NATIVE" [] = some [.attach 0x8086 0x3B20 0x0010] := by decide
theorem test_asm_disk_read :
    assemble Params.default "disk.read 1, 0x123456" [] = some [.start 1 false 0x123456 [], .complete false] := by decide
theorem test_asm_range : assemble Params.default "tag.make 0, 32, 7" [] = none := by decide

/-! ### One step of each instruction -/

/-- R101: the first event of V-CFG-3's read is the address write. -/
theorem test_cfgRead_address :
    nextHas (exec (.cfgRead 0x0018 0x3E 1) State.reset) fun t =>
      events t = [.out4 0xCF8 0x8000183C] && t.cfgAddr = some 0x8000183C := by decide
/-- V-CFG-11: the last event, and the byte of offset 2. -/
theorem test_cfgRead_result :
    nextHas (exec (.cfgRead 0x0018 0x3E 1)
        (runningAt State.reset (.cfgRead 0x0018 0x3E 1) (.cfgRead (.close 0x01020A0B)) [])) fun t =>
      events t = [.out4 0xCF8 0] && t.result = some ⟨.ok, 0x02, none⟩ && t.cfgAddr = some 0 := by decide
/-- V-CFG-18: the data write. -/
theorem test_cfgWrite_data :
    nextHas (exec (.cfgWrite 0x0008 0xFC 0xFFFFFFFF)
        (runningAt State.reset (.cfgWrite 0x0008 0xFC 0xFFFFFFFF) (.cfgWrite .data) [])) fun t =>
      events t = [.out4 0xCFC 0xFFFFFFFF] := by decide
/-- V-CFG-15: AlignmentError, no event. -/
theorem test_cfgWrite_misaligned :
    nextHas (exec (.cfgWrite 0x0008 0x06 7) State.reset) fun t =>
      events t = [] && t.result = some ⟨.alignmentError, 0, none⟩ && t.seq = .idle && t.halted = false := by decide
/-- V-TAG-4, V-TAG-5. -/
theorem test_tagMake :
    nextHas (exec (.tagMake 1 2 3) State.reset) (·.result = some ⟨.ok, 0x00011300, none⟩) ∧
      nextHas (exec (.tagMake 128 16 4) State.reset) (·.result = some ⟨.ok, 0x00808400, none⟩) := by decide
/-- V-TAG-2, V-REF-10. -/
theorem test_tagSplit :
    nextHas (exec (.tagSplit 0x00FFFF00) State.reset) (·.result = some ⟨.ok, 0x00071FFF, none⟩) ∧
      refusedFor (exec (.tagSplit 0x00000001) State.reset) .badTag := by decide
/-- V-BAR-1, V-BAR-9. -/
theorem test_barDecode :
    nextHas (exec (.barDecode 0x00011F01) State.reset) (·.result = some ⟨.ok, 0x1F00, none⟩) ∧
      nextHas (exec (.barDecode 0x00010000) State.reset) (·.result = some ⟨.ok, 0, none⟩) := by decide
/-- R124: the LEGACY driver is installed before the first status read. -/
theorem test_attach_legacy :
    nextHas (exec (.attach 0x8086 0x7000 0x0008) { State.reset with answers := [0x50] }) fun t =>
      t.cmd = some 0x1F0 && t.ctl = some 0x3F6 && t.irq = some 14 && t.bm = none &&
        events t = [.in1 0x1F7 0x50] := by decide
/-- V-ATT-5: an unknown device; and R123: a second attach halts the block. -/
theorem test_attach_errors :
    (nextHas (exec (.attach 0x1234 0x5678 0) State.reset) fun t =>
        t.result = some ⟨.unsupportedDevice, 0, none⟩ && t.variant = .none && t.halted = false) ∧
      nextHas (exec (.attach 0x8086 0x3B20 0x0010) legacyState) fun t =>
        t.result = some ⟨.duplicateDevice, 0, none⟩ && t.halted && t.variant = .legacy := by decide
/-- V-LBA-1: the drive/head write for unit 1, LBA 0x123456. -/
theorem test_start_drive_head :
    nextHas (exec (.start 1 false 0x123456 [])
        (runningAt legacyState (.start 1 false 0x123456 []) (.startReg .driveHead) [])) fun t =>
      events t = [.out1 0x1F6 0xF0] := by decide
/-- R57: the first data word of a write, byte 0 lowest. -/
theorem test_start_push :
    nextHas (exec (.start 0 true 0 ([0x11, 0x22, 0x33, 0x44] ++ List.replicate 508 0))
        (runningAt legacyState (.start 0 true 0 ([0x11, 0x22, 0x33, 0x44] ++ List.replicate 508 0)) (.startPush 0) []))
      fun t => events t = [.out4 0x1F0 0x44332211] := by decide
/-- R140, R147: ERROR set with BUSY clear and READY set is DiskMediaError, and the session ends. -/
theorem test_complete_media_error :
    nextHas (exec (.complete false)
        (runningAt { legacyState with xfer := .readPending } (.complete false) (.completeWait .read) [0x41])) fun t =>
      t.result = some ⟨.diskMediaError, 0, none⟩ && t.xfer = .idle && t.halted = false := by decide
/-- R146: a write COMPLETE needs WRITE_PENDING (V-REF-16). -/
theorem test_complete_session :
    refusedFor (exec (.complete true) { legacyState with xfer := .readPending }) .session ∧
      nextHas (exec (.complete true) { legacyState with xfer := .writePending }) (·.xfer = .idle) := by decide
/-- V-HI-1; and R171 for NATIVE with only bit 2 set. -/
theorem test_hasIntr :
    nextHas (exec .hasIntr legacyState) (fun t => t.result = some ⟨.ok, 1, none⟩ && events t = []) ∧
      nextHas (exec .hasIntr { nativeState with answers := [0x04] }) fun t =>
        t.result = some ⟨.ok, 1, none⟩ && events t = [.in1 0xC022 0x04] := by decide
/-- R172: the transfer error halts before the write-back. -/
theorem test_clearIntr_fatal :
    nextHas (exec .clearIntr (runningAt nativeState .clearIntr .clearBmRead [0x06])) fun t =>
      t.result = some ⟨.diskMediaFatal, 0x06, none⟩ && t.halted && events t = [.in1 0xC022 0x06] := by decide
/-- R172: the EOI of the derived IRQ. -/
theorem test_clearIntr_eoi :
    nextHas (exec .clearIntr (runningAt nativeState .clearIntr .clearEoi [])) fun t =>
      events t = [.eoi 11] && t.seq = .idle := by decide
/-- R82, R145: the read command ends START. -/
theorem test_ataCmdRead :
    nextHas (exec .ataCmdRead (runningAt legacyState (.start 1 false 5 []) .startCommand [])) fun t =>
      events t = [.out1 0x1F7 0x20] && t.xfer = .readPending && t.seq = .idle := by decide
/-- R82, R144: the write command goes on to DRQ_WAIT, and it runs first from a state `withFetchWord` gives. -/
theorem test_ataCmdWrite :
    nextHas (step (State.reset.withFetchWord 8 0x30)) fun t =>
      events t = [.out1 0x1F7 0x30] && t.xfer = .idle && t.seq ≠ .idle := by decide

/-! ### Witnesses: encoding, step -/

theorem test_witness_DecodeOfEncode :
    (Instr.cfgRead 0xFFFF 0xFF 4).WellFormed ∧ (Instr.start 1 true 0xFFFFFFF zeroSector).WellFormed := by decide

theorem test_witness_EncodeOfDecode : decode (.request ⟨0x00000004FFFFFF01, []⟩) = .ok (.cfgRead 0xFFFF 0xFF 4) := by rfl

/-- A ready block that is offered one request. -/
def offered (h : Header) (payload : List Byte) : State := { State.reset with requests := [⟨h, payload⟩] }

theorem test_witness_RefusedHeaders_opcode :
    Ready (offered 6 []) ∧ (offered 6 []).requests = ⟨6, []⟩ :: [] ∧ RefusedHeader ⟨6, []⟩ :=
  ⟨⟨rfl, rfl⟩, rfl, .inl (by decide)⟩
theorem test_witness_RefusedHeaders_reserved :
    Ready (offered 0x130 []) ∧ (offered 0x130 []).requests = ⟨0x130, []⟩ :: [] ∧ RefusedHeader ⟨0x130, []⟩ :=
  ⟨⟨rfl, rfl⟩, rfl, .inl (by decide)⟩
theorem test_witness_RefusedHeaders_width :
    Ready (offered 0x0000000500000001 []) ∧ RefusedHeader ⟨0x0000000500000001, []⟩ :=
  ⟨⟨rfl, rfl⟩, .inr (.inl (by decide))⟩
theorem test_witness_RefusedHeaders_tag : Ready (offered 0x104 []) ∧ RefusedHeader ⟨0x104, []⟩ :=
  ⟨⟨rfl, rfl⟩, .inr (.inr (.inl (by decide)))⟩
theorem test_witness_RefusedHeaders_payload :
    Ready (offered 0x220 (List.replicate 511 0)) ∧ PayloadExpected ⟨0x220, List.replicate 511 0⟩ ∧
      RefusedHeader ⟨0x220, List.replicate 511 0⟩ :=
  ⟨⟨rfl, rfl⟩, by unfold PayloadExpected; decide, .inr (.inr (.inr (by decide)))⟩
theorem test_witness_RefusedHeaders_accepted :
    Ready (offered 0x0000000400000001 []) ∧ ¬ PayloadExpected ⟨0x0000000400000001, []⟩ ∧
      ¬ RefusedHeader ⟨0x0000000400000001, []⟩ :=
  ⟨⟨rfl, rfl⟩, by unfold PayloadExpected; decide, by unfold RefusedHeader; decide⟩

theorem test_witness_StrayPayloadRefused :
    Ready (offered 0x30 [0]) ∧ (offered 0x30 [0]).requests = ⟨0x30, [0]⟩ :: [] ∧ ¬ PayloadExpected ⟨0x30, [0]⟩ ∧
      (⟨0x30, [0]⟩ : Request).payload ≠ [] :=
  ⟨⟨rfl, rfl⟩, rfl, by unfold PayloadExpected; decide, by decide⟩

theorem test_witness_StepRunsDecodedRequest :
    Ready (offered 0x00620103 []) ∧ (offered 0x00620103 []).requests = ⟨0x00620103, []⟩ :: [] ∧
      decode (.request ⟨0x00620103, []⟩) = .ok (.tagMake 1 2 3) := ⟨⟨rfl, rfl⟩, rfl, rfl⟩

theorem test_witness_StepRunsRunningRequest :
    Running .clearIntr .clearEoi (runningAt nativeState .clearIntr .clearEoi []) ∧ Pos.clearEoi ≠ .startCommand ∧
      Running (.start 1 false 5 []) .startCommand (runningAt legacyState (.start 1 false 5 []) .startCommand []) ∧
      Running (.start 1 true 5 zeroSector) .startCommand
        (runningAt legacyState (.start 1 true 5 zeroSector) .startCommand []) :=
  ⟨⟨rfl, rfl⟩, by decide, ⟨rfl, rfl⟩, ⟨rfl, rfl⟩⟩

theorem test_witness_IdleBlockWaits : Ready State.reset ∧ State.reset.requests = [] := ⟨⟨rfl, rfl⟩, rfl⟩

theorem test_witness_OfferedRequestIsHeld :
    Running (.start 1 false 5 []) .startCommand (runningAt legacyState (.start 1 false 5 []) .startCommand []) ∧
      Instr.ataCmdWrite ≠ .start 1 false 5 [] ∧
      Instr.ataCmdWrite ≠ runningInstr (.start 1 false 5 []) .startCommand :=
  ⟨⟨rfl, rfl⟩, by decide, by decide⟩

theorem test_witness_HaltedBlockIsStuck :
    ({ legacyState with halted := true, fatal := some .duplicateDevice } : State).halted = true := rfl

/-! ### Witnesses: requests without a driver -/

/-- A ready block: the hypothesis of TagMakeReturnsTag, TagSplitInvertsTagMake and BarDecodeReturnsBase. -/
theorem test_witness_TagMakeReturnsTag : Ready State.reset := ⟨rfl, rfl⟩
theorem test_witness_TagSplitInvertsTagMake : Ready nativeState := ⟨rfl, rfl⟩
theorem test_witness_BarDecodeReturnsBase : Ready legacyState := ⟨rfl, rfl⟩

theorem test_witness_TagSplitReturnsFields :
    Ready State.reset ∧ (0x00FFFF00 : Word) &&& 0xFF0000FF = 0 ∧ (0x01000000 : Word) &&& 0xFF0000FF ≠ 0 ∧
      (0x00000080 : Word) &&& 0xFF0000FF ≠ 0 := ⟨⟨rfl, rfl⟩, by decide⟩

theorem test_witness_ConfigReadCompletes :
    Ready State.reset ∧ ∀ width ∈ ([1, 2, 4] : List (BitVec 3)), width = 1 ∨ width = 2 ∨ width = 4 :=
  ⟨⟨rfl, rfl⟩, by decide⟩

theorem test_witness_ConfigReadBadWidthRefused :
    Ready State.reset ∧ ∀ width ∈ ([0, 3, 5, 7] : List (BitVec 3)), width ≠ 1 ∧ width ≠ 2 ∧ width ≠ 4 :=
  ⟨⟨rfl, rfl⟩, by decide⟩

theorem test_witness_ConfigWriteCompletes :
    Ready State.reset ∧ (0xFC : BitVec 8).toNat % 4 = 0 ∧ (0x01 : BitVec 8).toNat % 4 ≠ 0 ∧
      (0xFF : BitVec 8).toNat % 4 ≠ 0 := ⟨⟨rfl, rfl⟩, by decide⟩

/-! ### Witnesses: ATTACH -/

theorem test_witness_AttachMissIsIgnored :
    Ready legacyState ∧
      ∀ e ∈ legacyState.params.attachTable, ¬ (e.vendor = 0x8086 ∧ e.device = 0x7001) := ⟨⟨rfl, rfl⟩, by decide⟩

/-- A driver whose disk is absent also makes a second ATTACH fatal. -/
theorem test_witness_SecondAttachIsFatal :
    Ready ({ legacyState with present := false } : State) ∧
      (⟨0x8086, 0x3B20, .native⟩ : AttachEntry) ∈ ({ legacyState with present := false } : State).params.attachTable ∧
      ({ legacyState with present := false } : State).driver ≠ .none := ⟨⟨rfl, rfl⟩, by decide, by decide⟩

/-- PollsShow at its boundaries: the last of 1000 polls decides, a floating bus at the first, and 1000 zeros. -/
theorem test_polls_last : PollsShow (List.replicate 999 0 ++ [0x50]) true :=
  .inl ⟨999, 0x50, by decide, by decide, rfl, by decide⟩
theorem test_polls_floating : PollsShow [0xFF] false := .inl ⟨0, 0xFF, by decide, by decide, rfl, by decide⟩
theorem test_polls_zeros : PollsShow (List.replicate 1000 0) false := .inr ⟨rfl, rfl⟩

/-- No driver, and the answers of a wait of two reads and one poll. -/
def attachState (polls : List Byte) : State :=
  { State.reset with answers := byteAnswers ([0x80] ++ [0x50] ++ polls) ++ [] }

theorem test_witness_LegacyAttachCompletes :
    Ready (attachState [0xFF]) ∧ (attachState [0xFF]).driver = .none ∧
      lookupHandler (attachState [0xFF]).params.attachTable 0x8086 0x7000 = some .legacy ∧
      (∀ st ∈ ([0x80] : List Byte), probeWaitDone (attachState [0xFF]).params.probeWait st = false) ∧
      probeWaitDone (attachState [0xFF]).params.probeWait 0x50 = true ∧ PollsShow [0xFF] false ∧
      (attachState [0xFF]).answers = byteAnswers ([0x80] ++ [0x50] ++ [0xFF]) ++ [] :=
  ⟨⟨rfl, rfl⟩, rfl, by decide, by decide, by decide, test_polls_floating, rfl⟩

/-- The answers of program P2's shape: the interrupt line, three BARs, a wait of two reads, one poll. -/
def nativeAttachState : State :=
  { State.reset with
    answers := [0x0B, 0xC001, 0xC009, 0xC021] ++ (byteAnswers ([0x80] ++ [0x50] ++ [0x50]) ++ []) }

theorem test_witness_NativeAttachCompletes :
    Ready nativeAttachState ∧ nativeAttachState.driver = .none ∧
      lookupHandler nativeAttachState.params.attachTable 0x8086 0x3B20 = some .native ∧
      (∀ st ∈ ([0x80] : List Byte), probeWaitDone nativeAttachState.params.probeWait st = false) ∧
      probeWaitDone nativeAttachState.params.probeWait 0x50 = true ∧ PollsShow [0x50] true ∧
      nativeAttachState.answers =
        [0x0B, 0xC001, 0xC009, 0xC021] ++ (byteAnswers ([0x80] ++ [0x50] ++ [0x50]) ++ []) :=
  ⟨⟨rfl, rfl⟩, rfl, by decide, by decide, by decide, .inl ⟨0, 0x50, by decide, by decide, rfl, by decide⟩, rfl⟩

/-- ATTACH at poll `n`, whose answer is `a`. -/
def pollingState (n : Nat) (a : Word) : State :=
  runningAt { legacyState with present := false } (.attach 0x8086 0x7000 8) (.probePoll n) [a]

theorem test_witness_ProbePollDecides :
    (∀ n a, Running (.attach 0x8086 0x7000 8) (.probePoll n) (pollingState n a)) ∧
      (∀ n a, (pollingState n a).driver.bases = some ⟨0x1F0, 0x3F6, 14⟩) ∧
      (∀ n a, (pollingState n a).answers = a :: []) ∧ 999 < 1000 :=
  ⟨fun _ _ => ⟨rfl, rfl⟩, fun _ _ => rfl, fun _ _ => rfl, by decide⟩
/-- The clauses of a poll where they meet: the last zero, the last but one, a floating bus, a disk. -/
theorem test_probe_poll_boundaries :
    nextHas (step (pollingState 999 0)) (·.result = some ⟨.diskAbsent, 1, none⟩) ∧
      nextHas (step (pollingState 998 0)) (·.seq = .run (.attach 0x8086 0x7000 8) (.probePoll 999)) ∧
      nextHas (step (pollingState 0 0xFF)) (fun t => t.result = some ⟨.diskAbsent, 1, none⟩ && !t.present) ∧
      nextHas (step (pollingState 0 0xFE)) (fun t => t.result = some ⟨.ok, 1, none⟩ && t.present) := by decide

/-! ### Witnesses: START and COMPLETE -/

/-- A read START with a wait of two reads to come. -/
def readStartState : State := { legacyState with answers := byteAnswers ([0x80] ++ [0x50] ++ []) ++ [] }

/-- A write START with a wait of two reads and a DRQ_WAIT of two reads to come. -/
def writeStartState : State := { nativeState with answers := byteAnswers ([0xFF] ++ [0x40] ++ ([0x50] ++ [0x58])) ++ [7] }

theorem test_witness_StartCompletes_read :
    Ready readStartState ∧ readStartState.driver.bases = some ⟨0x1F0, 0x3F6, 14⟩ ∧ readStartState.present = true ∧
      readStartState.xfer = .idle ∧ ([] : List Byte).length = (if false = true then 512 else 0) ∧
      (∀ st ∈ ([0x80] : List Byte), waitDone st = false) ∧ waitDone 0x50 = true ∧
      (∀ st ∈ ([0x50] : List Byte), st.getLsbD 3 = false) ∧ (0x58 : Byte).getLsbD 3 = true ∧
      readStartState.answers =
        byteAnswers ([0x80] ++ [0x50] ++ if false = true then [0x50] ++ [0x58] else []) ++ [] :=
  ⟨⟨rfl, rfl⟩, rfl, rfl, rfl, rfl, by decide, by decide, by decide, by decide, rfl⟩

theorem test_witness_StartCompletes_write :
    Ready writeStartState ∧ writeStartState.driver.bases = some ⟨0xC000, 0xC008, 11⟩ ∧
      writeStartState.present = true ∧ writeStartState.xfer = .idle ∧
      zeroSector.length = (if true = true then 512 else 0) ∧ (∀ st ∈ ([0xFF] : List Byte), waitDone st = false) ∧
      waitDone 0x40 = true ∧ (∀ st ∈ ([0x50] : List Byte), st.getLsbD 3 = false) ∧ (0x58 : Byte).getLsbD 3 = true ∧
      writeStartState.answers =
        byteAnswers ([0xFF] ++ [0x40] ++ if true = true then [0x50] ++ [0x58] else []) ++ [7] :=
  ⟨⟨rfl, rfl⟩, rfl, rfl, rfl, by decide, by decide, by decide, by decide, by decide, rfl⟩

/-- Both clauses of StartReturns, and those of DeviceCommandsComplete, whose hypotheses are of the same form. -/
theorem test_witness_StartReturns :
    Running (.start 0 false 1 []) .startCommand (runningAt legacyState (.start 0 false 1 []) .startCommand []) ∧
      (runningAt legacyState (.start 0 false 1 []) .startCommand []).driver.bases = some ⟨0x1F0, 0x3F6, 14⟩ ∧
      Running (.start 0 true 1 zeroSector) (.startPush 127)
        (runningAt nativeState (.start 0 true 1 zeroSector) (.startPush 127) []) ∧
      (runningAt nativeState (.start 0 true 1 zeroSector) (.startPush 127) []).driver.bases =
        some ⟨0xC000, 0xC008, 11⟩ := ⟨⟨rfl, rfl⟩, rfl, ⟨rfl, rfl⟩, rfl⟩

theorem test_witness_DeviceCommandsComplete :
    Running (.start 0 false 1 []) .startCommand (runningAt nativeState (.start 0 false 1 []) .startCommand []) ∧
      (runningAt nativeState (.start 0 false 1 []) .startCommand []).driver.bases = some ⟨0xC000, 0xC008, 11⟩ ∧
      Running (.start 0 true 1 zeroSector) .startCommand
        (runningAt legacyState (.start 0 true 1 zeroSector) .startCommand []) ∧
      (runningAt legacyState (.start 0 true 1 zeroSector) .startCommand []).driver.bases =
        some ⟨0x1F0, 0x3F6, 14⟩ := ⟨⟨rfl, rfl⟩, rfl, ⟨rfl, rfl⟩, rfl⟩

theorem test_witness_DeviceCommandIsNoRequest : Ready legacyState := ⟨rfl, rfl⟩

/-- A read COMPLETE with a wait of two reads and a sector to come. -/
def completeState (last : Byte) (ws : List Word) : State :=
  { legacyState with xfer := .readPending, answers := byteAnswers ([0x80] ++ [last]) ++ (ws ++ []) }

theorem test_witness_CompleteReadReturnsSector :
    Ready (completeState 0x58 (List.replicate 128 0x44332211)) ∧
      (completeState 0x58 (List.replicate 128 0x44332211)).driver.bases = some ⟨0x1F0, 0x3F6, 14⟩ ∧
      (completeState 0x58 (List.replicate 128 0x44332211)).present = true ∧
      (completeState 0x58 (List.replicate 128 0x44332211)).xfer = .readPending ∧
      (∀ st ∈ ([0x80] : List Byte), waitDone st = false) ∧ waitDone 0x58 = true ∧ (0x58 : Byte) &&& 0x21 = 0 ∧
      (List.replicate 128 (0x44332211 : Word)).length = 128 ∧
      (completeState 0x58 (List.replicate 128 0x44332211)).answers =
        byteAnswers ([0x80] ++ [0x58]) ++ (List.replicate 128 0x44332211 ++ []) :=
  ⟨⟨rfl, rfl⟩, rfl, rfl, rfl, by decide, by decide, by decide, by decide, rfl⟩

/-- Each error bit alone: ERROR, then DEVICE-FAULT. -/
theorem test_witness_CompleteReadReportsMediaError :
    Ready (completeState 0x41 []) ∧ (completeState 0x41 []).driver.bases = some ⟨0x1F0, 0x3F6, 14⟩ ∧
      (completeState 0x41 []).present = true ∧ (completeState 0x41 []).xfer = .readPending ∧
      (∀ st ∈ ([0x80] : List Byte), waitDone st = false) ∧ waitDone 0x41 = true ∧ (0x41 : Byte) &&& 0x21 ≠ 0 ∧
      waitDone 0x60 = true ∧ (0x60 : Byte) &&& 0x21 ≠ 0 ∧
      (completeState 0x41 []).answers = byteAnswers ([0x80] ++ [0x41]) ++ [] :=
  ⟨⟨rfl, rfl⟩, rfl, rfl, rfl, by decide, by decide, by decide, by decide, by decide, rfl⟩

/-- At the last data read. -/
def lastPullState : State :=
  runningAt { legacyState with xfer := .readPending } (.complete false) (.completePull (List.replicate 127 0)) [9]

theorem test_witness_CompleteReadReturns :
    Running (.complete false) (.completePull (List.replicate 127 0)) lastPullState ∧
      lastPullState.driver.bases = some ⟨0x1F0, 0x3F6, 14⟩ ∧ (List.replicate 127 (0 : Word)).length = 127 ∧
      lastPullState.answers = 9 :: [] := ⟨⟨rfl, rfl⟩, rfl, by decide, rfl⟩

theorem test_witness_CompleteWriteEndsSession :
    Ready ({ legacyState with xfer := .writePending } : State) ∧
      ({ legacyState with xfer := .writePending } : State).driver ≠ .none ∧
      ({ legacyState with xfer := .writePending } : State).present = true ∧
      ({ legacyState with xfer := .writePending } : State).xfer = .writePending := ⟨⟨rfl, rfl⟩, by decide, rfl, rfl⟩

/-- Each way to be out of session, for START and for both forms of COMPLETE. -/
theorem test_witness_TransfersRefusedOutOfSession :
    (Ready State.reset ∧ State.reset.driver = .none) ∧
      (Ready ({ legacyState with present := false } : State) ∧
        ({ legacyState with present := false } : State).present = false) ∧
      (Ready ({ legacyState with xfer := .readPending } : State) ∧
        ({ legacyState with xfer := .readPending } : State).xfer ≠ .idle ∧
        ({ legacyState with xfer := .readPending } : State).xfer ≠ (if true = true then .writePending else .readPending)) ∧
      Ready legacyState ∧ legacyState.xfer ≠ (if false = true then .writePending else .readPending) :=
  ⟨⟨⟨rfl, rfl⟩, rfl⟩, ⟨⟨rfl, rfl⟩, rfl⟩, ⟨⟨rfl, rfl⟩, by decide, by decide⟩, ⟨rfl, rfl⟩, by decide⟩

/-- A wait read that ends the wait, and one that is the interval's last failure. -/
def startWaitState (a : Word) : State :=
  runningAt { legacyState with params := { Params.default with warnInterval := 2 }, spin := 1 } (.start 0 false 1 [])
    (.startWait .read) [a]

theorem test_witness_StartWaitReadDecides :
    (∀ a, Running (.start 0 false 1 []) (.startWait .read) (startWaitState a)) ∧
      (∀ a, (startWaitState a).driver.bases = some ⟨0x1F0, 0x3F6, 14⟩) ∧ (∀ a, (startWaitState a).answers = a :: []) :=
  ⟨fun _ => ⟨rfl, rfl⟩, fun _ => rfl, fun _ => rfl⟩
/-- V-WAIT: 0xC0 keeps waiting, 0x61 ends an unchecked wait. -/
theorem test_start_wait_boundaries :
    nextHas (step (startWaitState 0xC0))
        (fun t => t.seq = .run (.start 0 false 1 []) (.startWait .diag) && t.spin = 2) ∧
      nextHas (step (startWaitState 0x61)) (·.seq = .run (.start 0 false 1 []) (.startReg .control)) := by decide

theorem test_witness_DiagnosticHasNoEffect :
    Running (.start 0 false 1 []) (.startWait .diag) (runningAt legacyState (.start 0 false 1 []) (.startWait .diag) []) ∧
      Running (.complete false) (.completeWait .diag) (runningAt legacyState (.complete false) (.completeWait .diag) []) ∧
      Running (.attach 0x8086 0x7000 8) (.probeWait .diag)
        (runningAt legacyState (.attach 0x8086 0x7000 8) (.probeWait .diag) []) ∧
      legacyState.driver.bases = some ⟨0x1F0, 0x3F6, 14⟩ := ⟨⟨rfl, rfl⟩, ⟨rfl, rfl⟩, ⟨rfl, rfl⟩, rfl⟩

/-- Each clause with n = 2: two answers that hold no exit value, before one that does. -/
theorem test_witness_WaitsHaveNoTimeout_start :
    Running (.start 0 false 1 []) (.startWait .read)
        (runningAt legacyState (.start 0 false 1 []) (.startWait .read) [0x80, 0xFF, 0x50]) ∧
      legacyState.driver ≠ .none ∧ 2 ≤ [(0x80 : Word), 0xFF, 0x50].length ∧
      ∀ a ∈ [(0x80 : Word), 0xFF, 0x50].take 2, waitDone (a.setWidth 8) = false := ⟨⟨rfl, rfl⟩, by decide, by decide, by rintro a h; simp only [List.take] at h; fin_cases h <;> decide⟩
theorem test_witness_WaitsHaveNoTimeout_complete :
    Running (.complete false) (.completeWait .read)
        (runningAt nativeState (.complete false) (.completeWait .read) [0x00, 0xFF, 0x50]) ∧
      nativeState.driver ≠ .none ∧ 2 ≤ [(0x00 : Word), 0xFF, 0x50].length ∧
      ∀ a ∈ [(0x00 : Word), 0xFF, 0x50].take 2, waitDone (a.setWidth 8) = false := ⟨⟨rfl, rfl⟩, by decide, by decide, by rintro a h; simp only [List.take] at h; fin_cases h <;> decide⟩
theorem test_witness_WaitsHaveNoTimeout_attach :
    Running (.attach 0x8086 0x7000 8) (.probeWait .read)
        (runningAt legacyState (.attach 0x8086 0x7000 8) (.probeWait .read) [0x80, 0xFF, 0x50]) ∧
      2 ≤ [(0x80 : Word), 0xFF, 0x50].length ∧
      ∀ a ∈ [(0x80 : Word), 0xFF, 0x50].take 2, probeWaitDone legacyState.params.probeWait (a.setWidth 8) = false :=
  ⟨⟨rfl, rfl⟩, by decide, by rintro a h; simp only [List.take] at h; fin_cases h <;> decide⟩
theorem test_witness_WaitsHaveNoTimeout_drq :
    Running (.start 0 true 1 zeroSector) .startDrq
        (runningAt legacyState (.start 0 true 1 zeroSector) .startDrq [0x50, 0xF7, 0x58]) ∧
      2 ≤ [(0x50 : Word), 0xF7, 0x58].length ∧ ∀ a ∈ [(0x50 : Word), 0xF7, 0x58].take 2, a.getLsbD 3 = false :=
  ⟨⟨rfl, rfl⟩, by decide, by rintro a h; simp only [List.take] at h; fin_cases h <;> decide⟩

/-! ### Witnesses: interrupts -/

theorem test_witness_HasIntrAnswers :
    (Ready State.reset ∧ State.reset.driver = .none) ∧
      (Ready legacyState ∧ legacyState.driver = .legacy ⟨0x1F0, 0x3F6, 14⟩) ∧
      Ready ({ nativeState with answers := [0xFB] } : State) ∧
      ({ nativeState with answers := [0xFB] } : State).driver = .native ⟨0xC000, 0xC008, 11⟩ 0xC020 ∧
      ({ nativeState with answers := [0xFB] } : State).answers = 0xFB :: [] :=
  ⟨⟨⟨rfl, rfl⟩, rfl⟩, ⟨⟨rfl, rfl⟩, rfl⟩, ⟨rfl, rfl⟩, rfl, rfl⟩

theorem test_witness_LegacyClearIntrCompletes :
    (Ready State.reset ∧ State.reset.driver = .none) ∧
      Ready ({ legacyState with answers := [0x50, 0x51] } : State) ∧
      ({ legacyState with answers := [0x50, 0x51] } : State).driver = .legacy ⟨0x1F0, 0x3F6, 14⟩ ∧
      ({ legacyState with answers := [0x50, 0x51] } : State).answers = 0x50 :: 0x51 :: [] :=
  ⟨⟨⟨rfl, rfl⟩, rfl⟩, ⟨rfl, rfl⟩, rfl, rfl⟩

/-- The two statements on NATIVE CLEAR_INTR: all bits but the error bit, then the error bit alone. -/
theorem test_witness_NativeClearIntrCompletes :
    Ready ({ nativeState with answers := [0x50, 0x51, 0xFD] } : State) ∧
      ({ nativeState with answers := [0x50, 0x51, 0xFD] } : State).driver = .native ⟨0xC000, 0xC008, 11⟩ 0xC020 ∧
      ({ nativeState with answers := [0x50, 0x51, 0xFD] } : State).answers = 0x50 :: 0x51 :: 0xFD :: [] ∧
      (0xFD : Word).getLsbD 1 = false := ⟨⟨rfl, rfl⟩, rfl, rfl, by decide⟩
theorem test_witness_NativeClearIntrFailsFatally :
    Ready ({ nativeState with answers := [0x50, 0x51, 0x02] } : State) ∧
      ({ nativeState with answers := [0x50, 0x51, 0x02] } : State).driver = .native ⟨0xC000, 0xC008, 11⟩ 0xC020 ∧
      ({ nativeState with answers := [0x50, 0x51, 0x02] } : State).answers = 0x50 :: 0x51 :: 0x02 :: [] ∧
      (0x02 : Word).getLsbD 1 = true := ⟨⟨rfl, rfl⟩, rfl, rfl, by decide⟩

/-! ### Witnesses: the whole machine -/

/-- A block that meets the invariant, at the last event of CLEAR_INTR. -/
def eoiState : State := runningAt nativeState .clearIntr .clearEoi []

theorem eoiState_inv : BlockInv eoiState where
  params_wf := by decide
  legacy_fixed b h := by simp [eoiState, runningAt, nativeState] at h
  native_bases b bm h := by
    simp only [eoiState, runningAt, nativeState, Driver.native.injEq] at h
    obtain ⟨rfl, rfl⟩ := h
    refine ⟨by decide, by decide, by decide, ?_⟩
    unfold IrqFits; decide
  disk_needs_driver := by decide
  session_needs_disk := by decide
  halted_iff_fatal := by decide
  fatal_reported e h := by simp [eoiState, runningAt, nativeState, State.reset] at h
  halted_idle := by decide
  seq_fits := ⟨rfl, by show eoiState.driver ≠ .none; decide⟩
  cfg_addr := .inl rfl
  result_data r d h := by simp [eoiState, runningAt, nativeState, State.reset] at h
  trace_ids := by decide

/-- LEGACY states that meet the invariant: ATTACH at its first poll, START at its command, COMPLETE at its last data read,
a pending write. -/
def firstPollState : State := pollingState 0 0x50
def commandState : State := runningAt legacyState (.start 0 false 1 []) .startCommand []
def pendingWriteState : State := { legacyState with xfer := .writePending, requests := [⟨0x121, []⟩] }

theorem legacy_params {s : State} (h : s.driver = .legacy ⟨0x1F0, 0x3F6, 14⟩) :
    (∀ b, s.driver = .legacy b → b = ⟨0x1F0, 0x3F6, 14⟩) ∧
      ∀ b bm, s.driver = .native b bm →
        b.cmd.toNat % 8 = 0 ∧ b.ctl.toNat % 8 = 0 ∧ bm.toNat % 8 = 0 ∧ IrqFits s.params b.irq :=
  ⟨fun b hb => by rw [h] at hb; cases hb; rfl, fun b bm hb => by rw [h] at hb; cases hb⟩

theorem firstPollState_inv : BlockInv firstPollState where
  params_wf := by decide
  legacy_fixed := (legacy_params rfl).1
  native_bases := (legacy_params rfl).2
  disk_needs_driver := by decide
  session_needs_disk := by decide
  halted_iff_fatal := by decide
  fatal_reported e h := by cases h
  halted_idle := by decide
  seq_fits := ⟨rfl, by decide, rfl, by decide⟩
  cfg_addr := .inl rfl
  result_data r d h := by cases h
  trace_ids := by decide

theorem commandState_inv : BlockInv commandState where
  params_wf := by decide
  legacy_fixed := (legacy_params rfl).1
  native_bases := (legacy_params rfl).2
  disk_needs_driver := by decide
  session_needs_disk := by decide
  halted_iff_fatal := by decide
  fatal_reported e h := by cases h
  halted_idle := by decide
  seq_fits := ⟨rfl, rfl, rfl⟩
  cfg_addr := .inl rfl
  result_data r d h := by cases h
  trace_ids := by decide

theorem lastPullState_inv : BlockInv lastPullState where
  params_wf := by decide
  legacy_fixed := (legacy_params rfl).1
  native_bases := (legacy_params rfl).2
  disk_needs_driver := by decide
  session_needs_disk := by decide
  halted_iff_fatal := by decide
  fatal_reported e h := by cases h
  halted_idle := by decide
  seq_fits := ⟨rfl, rfl, rfl, rfl, by decide⟩
  cfg_addr := .inl rfl
  result_data r d h := by cases h
  trace_ids := by decide

theorem pendingWriteState_inv : BlockInv pendingWriteState where
  params_wf := by decide
  legacy_fixed := (legacy_params rfl).1
  native_bases := (legacy_params rfl).2
  disk_needs_driver := by decide
  session_needs_disk := by decide
  halted_iff_fatal := by decide
  fatal_reported e h := by cases h
  halted_idle := by decide
  seq_fits := trivial
  cfg_addr := .inl rfl
  result_data r d h := by cases h
  trace_ids := by decide

/-- A pending read whose COMPLETE the host offers next, with ERROR in the first status it reads. -/
def failingReadState : State :=
  { legacyState with xfer := .readPending, requests := [⟨0x21, []⟩], answers := [0x41] }

theorem failingReadState_inv : BlockInv failingReadState where
  params_wf := by decide
  legacy_fixed := (legacy_params rfl).1
  native_bases := (legacy_params rfl).2
  disk_needs_driver := by decide
  session_needs_disk := by decide
  halted_iff_fatal := by decide
  fatal_reported e h := by cases h
  halted_idle := by decide
  seq_fits := trivial
  cfg_addr := .inl rfl
  result_data r d h := by cases h
  trace_ids := by decide

/-- A write START at its last data word. -/
def lastPushState : State := runningAt legacyState (.start 0 true 1 zeroSector) (.startPush 127) []

theorem lastPushState_inv : BlockInv lastPushState where
  params_wf := by decide
  legacy_fixed := (legacy_params rfl).1
  native_bases := (legacy_params rfl).2
  disk_needs_driver := by decide
  session_needs_disk := by decide
  halted_iff_fatal := by decide
  fatal_reported e h := by cases h
  halted_idle := by decide
  seq_fits := ⟨by decide, rfl, rfl, rfl, by decide⟩
  cfg_addr := .inl rfl
  result_data r d h := by cases h
  trace_ids := by decide

/-- Also the hypotheses of StepRecordsAtMostOneEvent and StepKeepsParametersAndRequests. -/
theorem test_witness_StepKeepsInvariant : ∃ t, BlockInv eoiState ∧ step eoiState = .next t := ⟨_, eoiState_inv, rfl⟩
theorem test_witness_StepRecordsAtMostOneEvent : ∃ t, step commandState = .next t := ⟨_, rfl⟩
theorem test_witness_StepKeepsParametersAndRequests : ∃ t, step pendingWriteState = .next t := ⟨_, rfl⟩

theorem test_witness_StepsKeepPortDiscipline :
    ∃ t e, BlockInv commandState ∧ step commandState = .next t ∧ t.trace = commandState.trace ++ [e] :=
  ⟨_, _, commandState_inv, rfl, rfl⟩

theorem test_witness_SessionMoves_start :
    ∃ t, BlockInv commandState ∧ step commandState = .next t ∧ t.xfer ≠ commandState.xfer :=
  ⟨_, commandState_inv, rfl, by decide⟩
theorem test_witness_SessionMoves_write_start :
    ∃ t, BlockInv lastPushState ∧ step lastPushState = .next t ∧ t.xfer ≠ lastPushState.xfer :=
  ⟨_, lastPushState_inv, rfl, by decide⟩
/-- A read COMPLETE ends with the step that accepts it. -/
theorem test_witness_SessionMoves_failed_read :
    ∃ t, BlockInv failingReadState ∧ step failingReadState = .next t ∧ t.xfer ≠ failingReadState.xfer ∧
      NextStepOf (.complete false) failingReadState ∧ failingReadState.seq = .idle ∧
      t.result = some ⟨.diskMediaError, 0, none⟩ :=
  ⟨_, failingReadState_inv, rfl, by decide, .inr ⟨rfl, _, _, rfl, rfl⟩, rfl, rfl⟩
theorem test_witness_SessionMoves_read :
    ∃ t, BlockInv lastPullState ∧ step lastPullState = .next t ∧ t.xfer ≠ lastPullState.xfer :=
  ⟨_, lastPullState_inv, rfl, by decide⟩
theorem test_witness_SessionMoves_write :
    ∃ t, BlockInv pendingWriteState ∧ step pendingWriteState = .next t ∧ t.xfer ≠ pendingWriteState.xfer :=
  ⟨_, pendingWriteState_inv, rfl, by decide⟩

theorem test_witness_PresentIsWrittenByTheProbe :
    ∃ t, BlockInv firstPollState ∧ step firstPollState = .next t ∧ t.present ≠ firstPollState.present :=
  ⟨_, firstPollState_inv, rfl, by decide⟩

theorem test_witness_DriverIsWrittenOnce :
    (∃ t, BlockInv commandState ∧ step commandState = .next t ∧ commandState.driver ≠ .none) ∧
      Ready legacyState ∧ legacyState.driver ≠ .none ∧
      lookupHandler legacyState.params.attachTable 0x8086 0x7000 ≠ none :=
  ⟨⟨_, commandState_inv, rfl, by decide⟩, ⟨rfl, rfl⟩, by decide, by decide⟩

theorem test_witness_EoiEndsClearIntr :
    ∃ t r, step eoiState = .next t ∧ t.trace = eoiState.trace ++ [⟨1, .eoi 11⟩] ∧
      (⟨1, .eoi 11⟩ : Entry).event = .eoi 11 ∧ NextStepOf .clearIntr eoiState ∧ t.seq = .idle ∧
      t.result = some r ∧ r.status = .ok := ⟨_, _, rfl, rfl, rfl, .inl ⟨_, rfl⟩, rfl, rfl, rfl⟩

theorem test_witness_TraceIsNotRead :
    ∃ t, firstPollState.answers ≠ [] ∧ exec (.attach 0x8086 0x7000 8) firstPollState = .next t :=
  ⟨_, by decide, rfl⟩

theorem test_witness_OnlyFatalErrorsHalt_attach :
    ∃ t, exec (.attach 0x8086 0x7000 8) legacyState = .next t ∧
      (t.halted ≠ legacyState.halted ∨ t.fatal ≠ legacyState.fatal) := ⟨_, rfl, .inl (by decide)⟩
theorem test_witness_OnlyFatalErrorsHalt_clearIntr :
    ∃ t, exec .clearIntr (runningAt nativeState .clearIntr .clearBmRead [2]) = .next t ∧
      (t.halted ≠ nativeState.halted ∨ t.fatal ≠ nativeState.fatal) := ⟨_, rfl, .inl (by decide)⟩

/-- The result that each clause of ErrorsAreRaisedByTheirRequests is about is new. -/
def newStatus (i : Instr) (s : State) (e : Status) : Prop :=
  ∃ t r, exec i s = .next t ∧ t.result = some r ∧ s.result ≠ some r ∧ r.status = e

theorem test_witness_ErrorsAreRaisedByTheirRequests :
    newStatus .hasIntr legacyState .ok ∧ newStatus (.cfgWrite 0 1 0) State.reset .alignmentError ∧
      newStatus (.attach 0 0 0) State.reset .unsupportedDevice ∧
      newStatus (.attach 0x8086 0x7000 8) legacyState .duplicateDevice ∧
      newStatus (.attach 0x8086 0x7000 8) (pollingState 0 0xFF) .diskAbsent ∧
      newStatus (.complete false)
        (runningAt { legacyState with xfer := .readPending } (.complete false) (.completeWait .read) [0x41])
        .diskMediaError ∧
      newStatus .clearIntr (runningAt nativeState .clearIntr .clearBmRead [2]) .diskMediaFatal :=
  ⟨⟨_, _, rfl, rfl, by decide, rfl⟩, ⟨_, _, rfl, rfl, by decide, rfl⟩, ⟨_, _, rfl, rfl, by decide, rfl⟩,
    ⟨_, _, rfl, rfl, by decide, rfl⟩, ⟨_, _, rfl, rfl, by decide, rfl⟩, ⟨_, _, rfl, rfl, by decide, rfl⟩,
    ⟨_, _, rfl, rfl, by decide, rfl⟩⟩

/-- DiskMediaError in a state that meets the invariant. -/
theorem test_witness_ErrorsAreRaisedByTheirRequests_inv :
    newStatus (.complete false) failingReadState .diskMediaError ∧ BlockInv failingReadState :=
  ⟨⟨_, _, rfl, rfl, by decide, rfl⟩, failingReadState_inv⟩

/-! ### Witnesses: frames -/

theorem test_witness_ConfigRequestsFrame :
    (∃ t, exec (.cfgRead 0 0 1) State.reset = .next t) ∧ ∃ t, exec (.cfgWrite 0 0 1) State.reset = .next t :=
  ⟨⟨_, rfl⟩, ⟨_, rfl⟩⟩
theorem test_witness_PureRequestsFrame :
    (∃ t, exec (.tagMake 255 31 7) State.reset = .next t) ∧ (∃ t, exec (.tagSplit 0xFFFF00) State.reset = .next t) ∧
      ∃ t, exec (.barDecode 0xFFFFFFFF) State.reset = .next t := ⟨⟨_, rfl⟩, ⟨_, rfl⟩, ⟨_, rfl⟩⟩
theorem test_witness_AttachFrame :
    ∃ t, exec (.attach 0x8086 0x7000 8) firstPollState = .next t ∧ BlockInv firstPollState ∧
      firstPollState.driver ≠ .none := ⟨_, rfl, firstPollState_inv, by decide⟩
theorem test_witness_StartFrame :
    (∃ t, exec (.start 0 false 1 []) readStartState = .next t) ∧ (∃ t, exec .ataCmdRead commandState = .next t) ∧
      ∃ t, exec .ataCmdWrite (runningAt legacyState (.start 0 true 1 zeroSector) .startCommand []) = .next t :=
  ⟨⟨_, rfl⟩, ⟨_, rfl⟩, ⟨_, rfl⟩⟩
theorem test_witness_CompleteFrame :
    (∃ t, exec (.complete false) lastPullState = .next t) ∧
      ∃ t, exec (.complete true) pendingWriteState = .next t ∧ pendingWriteState.seq = .idle :=
  ⟨⟨_, rfl⟩, ⟨_, rfl, rfl⟩⟩
theorem test_witness_InterruptRequestsFrame :
    (∃ t, exec .hasIntr legacyState = .next t) ∧ ∃ t, exec .clearIntr eoiState = .next t := ⟨⟨_, rfl⟩, ⟨_, rfl⟩⟩

end Sys2Proof.Tests
end

section
/-! ## Postconditions of a step

`Post P o` says that the answer `o`, where it is a next state, meets `P`: one rule per shared operation, so that a proof
about an instruction follows its event, not the match of its outcome. -/

namespace Sys2Proof.Machine

/-- The answer is no next state, or one that meets `P`. -/
def Post (P : State → Prop) : Out → Prop
  | .next t => P t
  | .fault _ => True
  | .refused _ => True

section Rules

variable {P : State → Prop} {s : State}

@[simp] theorem post_next : Post P (.next s) ↔ P s := Iff.rfl
@[simp] theorem post_fault (r : Fault) : Post P (.fault r) := trivial
@[simp] theorem post_refused (r : Refusal) : Post P (.refused r) := trivial

theorem post_iff {o : Out} : Post P o ↔ ∀ t, o = .next t → P t := by
  cases o <;> simp

theorem Post.mono {Q : State → Prop} {o : Out} (h : Post P o) (hpq : ∀ t, P t → Q t) : Post Q o :=
  post_iff.2 fun t ht => hpq t (post_iff.1 h t ht)

@[simp] theorem post_goto {i : Instr} {k : Pos} : Post P (goto i k s) ↔ P (s.setSeq (.run i k)) := Iff.rfl

@[simp] theorem post_finish {v : Word} {data : Option (List Byte)} :
    Post P (finish v data s) ↔ P ((s.setResult ⟨.ok, v, data⟩).setSeq .idle) := Iff.rfl

theorem post_raise {e : Status} {v : Word}
    (hgo : e.isFatal = false → P ((s.setResult ⟨e, v, none⟩).setSeq .idle))
    (hhalt : e.isFatal = true → P (((s.setResult ⟨e, v, none⟩).setSeq .idle).setFatal e)) : Post P (raise e v s) := by
  cases he : e.isFatal with
  | false => rw [raise_of_not_fatal he]; exact hgo he
  | true => rw [raise_of_fatal he]; exact hhalt he

theorem post_withBases {f : Bases → Out} (h : ∀ b, s.driver.bases = some b → Post P (f b)) :
    Post P (withBases f s) :=
  post_iff.2 fun _ ht => let ⟨b, hb, hf⟩ := withBases_eq_next ht; post_iff.1 (h b hb) _ hf

theorem post_withNative {f : Bases → Port → Out} (h : ∀ b bm, s.driver = .native b bm → Post P (f b bm)) :
    Post P (withNative f s) :=
  post_iff.2 fun _ ht => let ⟨b, bm, hd, hf⟩ := withNative_eq_next ht; post_iff.1 (h b bm hd) _ hf

theorem post_configRead {i : Instr} {tag : Word} {reg : BitVec 8} {at_ : CfgPhase → Pos} {done : Word → State → Out}
    {p : CfgPhase}
    (haddress : p = .address → P ((openConfig (cfgAddrWord tag reg) s).setSeq (.run i (at_ .data))))
    (hdata : p = .data → ∀ v, P ((s.afterIn4 Config.cfgDataPort).setSeq (.run i (at_ (.close v)))))
    (hclose : ∀ v, p = .close v → Post P (done v (closeConfig s))) :
    Post P (configRead i tag reg at_ done p s) := by
  refine post_iff.2 fun t ht => ?_
  obtain ⟨hp, rfl⟩ | ⟨hp, rfl⟩ | ⟨v, hp, hd⟩ := configRead_eq_next ht
  · exact haddress hp
  · exact hdata hp _
  · exact post_iff.1 (hclose v hp) t hd

/-- A status wait goes on from its read's state, whatever was read; it stays in the wait, counting or not; or it reports
and reads again. -/
theorem post_statusWait {i : Instr} {b : Bases} {at_ : WaitPhase → Pos} {done : Byte → Bool}
    {exit : Byte → State → Out} {p : WaitPhase}
    (hexit : ∀ st, Post P (exit st (s.afterIn1 (taskReg b 7))))
    (hfailed : ∀ q, P (((s.afterIn1 (taskReg b 7)).setSpin (s.spin + 1)).setSeq (.run i (at_ q))))
    (hdiag : P ((s.emit (.diag b.cmd)).setSeq (.run i (at_ .read)))) :
    Post P (statusWait i b at_ done exit p s) := by
  refine post_iff.2 fun t ht => ?_
  obtain ⟨-, -, hx⟩ | ⟨-, -, rfl⟩ | ⟨-, rfl⟩ := statusWait_eq_next ht
  · exact post_iff.1 (hexit _) t hx
  · exact hfailed _
  · exact hdiag

/-- A request offered to an idle block, one that goes on, and one that is held. -/
theorem post_onRequest {i : Instr} {check : State → Option Refusal} {start : State → Out} {go : Pos → State → Out}
    (hstart : Ready s → check s = none → Post P (start s.nextId))
    (hgo : ∀ k, Running i k s → Post P (go k s)) (hheld : P s) : Post P (onRequest i check start go s) := by
  refine post_iff.2 fun t ht => ?_
  obtain ⟨hr, hc, hs⟩ | ⟨k, hk, hg⟩ | ⟨-, -, -, -, rfl⟩ := onRequest_eq_next ht
  · exact post_iff.1 (hstart hr hc) t hs
  · exact post_iff.1 (hgo k hk) t hg
  · exact hheld

/-- A device command writes the command byte of the START that stands at it, or is held (R82). -/
theorem post_deviceCommand {writing : Bool}
    (hissue : ∀ unit lba payload, Running (.start unit writing lba payload) .startCommand s →
      Post P (issueCommand (.start unit writing lba payload) writing s))
    (hheld : P s) : Post P (deviceCommand writing s) := by
  unfold deviceCommand
  split
  · simp
  · next hh =>
    split
    · next unit w lba payload hs =>
      split
      · next hw => subst hw; exact hissue unit lba payload ⟨by simpa using hh, hs⟩
      · exact hheld
    · exact hheld
    · simp

end Rules

end Sys2Proof.Machine
end

section
/-! ## The parts of the invariant

`BlockInv` of a block that is not halted is `LiveInv`, which does not speak of the sequencer, with the sequencer's
position and the configuration address (`StandsAt`, or `RestsIdle` between requests). A request's step updates fields under
`LiveInv` and ends by `goto`, `finish` or `raise`, each of which gives `BlockInv` back. -/

namespace Sys2Proof.Machine

/-- What the clauses of `BlockInv` on `legacy_fixed` and `native_bases` ask of an installed driver. -/
def DriverFits (p : Params) : Driver → Prop
  | .none => True
  | .legacy b => b = ⟨0x1F0, 0x3F6, 14⟩
  | .native b bm => b.cmd.toNat % 8 = 0 ∧ b.ctl.toNat % 8 = 0 ∧ bm.toNat % 8 = 0 ∧ IrqFits p b.irq

/-- What the clause `result_data` of `BlockInv` asks of a result. -/
def DataFits (r : Result) : Prop := ∀ d, r.data = some d → r.status = .ok ∧ r.value = 0 ∧ d.length = 512

/-- What the clause `cfg_addr` of `BlockInv` asks, where `opened` is the address a request has open. -/
def AddrFits (opened known : Option Word) : Prop :=
  match opened with
  | some a => known = some a
  | none => known = none ∨ known = some 0

/-- The invariant of a block that is not halted, apart from the sequencer and the configuration address. -/
structure LiveInv (s : State) : Prop where
  params_wf : s.params.wf = true
  driver_fits : DriverFits s.params s.driver
  disk_needs_driver : s.present = true → s.driver ≠ .none
  session_needs_disk : s.xfer ≠ .idle → s.present = true
  not_halted : s.halted = false
  not_fatal : s.fatal = none
  data_fits : ∀ r, s.result = some r → DataFits r
  trace_ids : ∀ e ∈ s.trace, e.id ≤ s.reqId

/-- The block can stand at position `k` of request `i`, whatever `seq` holds. -/
structure StandsAt (i : Instr) (k : Pos) (s : State) : Prop where
  live : LiveInv s
  wellFormed : i.WellFormed
  pos_fits : PosFits s i k
  addr_fits : AddrFits (openAddress (.run i k)) s.cfgAddr

/-- The block can end its request, whatever `seq` holds. -/
structure RestsIdle (s : State) : Prop where
  live : LiveInv s
  addr_closed : AddrFits none s.cfgAddr

theorem driverFits_of_blockInv {s : State} (h : BlockInv s) : DriverFits s.params s.driver := by
  cases hd : s.driver with
  | none => trivial
  | legacy b => exact h.legacy_fixed b hd
  | native b bm => exact h.native_bases b bm hd

theorem LiveInv.of_blockInv {s : State} (h : BlockInv s) (hh : s.halted = false) : LiveInv s where
  params_wf := h.params_wf
  driver_fits := driverFits_of_blockInv h
  disk_needs_driver := h.disk_needs_driver
  session_needs_disk := h.session_needs_disk
  not_halted := hh
  not_fatal := by simpa [hh] using h.halted_iff_fatal
  data_fits r hr d hd := h.result_data r d hr hd
  trace_ids := h.trace_ids

theorem addrFits_of_blockInv {s : State} {q : Seq} (h : BlockInv s) (hs : s.seq = q) :
    AddrFits (openAddress q) s.cfgAddr := hs ▸ h.cfg_addr

/-- What the invariant says of a running block. -/
theorem standsAt_of_blockInv {s : State} {i : Instr} {k : Pos} (h : BlockInv s) (hr : Running i k s) :
    StandsAt i k s := by
  obtain ⟨hh, hs⟩ := hr
  have hfits : i.WellFormed ∧ PosFits s i k := by simpa [SeqFits, hs] using h.seq_fits
  exact ⟨.of_blockInv h hh, hfits.1, hfits.2, addrFits_of_blockInv h hs⟩

/-- What the invariant says of a block that accepts a request. -/
theorem restsIdle_of_blockInv {s : State} (h : BlockInv s) (hr : Ready s) : RestsIdle s :=
  ⟨.of_blockInv h hr.1, addrFits_of_blockInv h hr.2⟩

section Updates

/-! ### Updates that keep the live invariant -/

variable {s : State}

theorem LiveInv.emit (h : LiveInv s) (e : Event) : LiveInv (s.emit e) :=
  { h with
    trace_ids := by
      intro x hx
      obtain hx | rfl : x ∈ s.trace ∨ x = ⟨s.reqId, e⟩ := by simpa using hx
      · exact h.trace_ids x hx
      · exact le_rfl }

theorem LiveInv.dropAnswer (h : LiveInv s) : LiveInv s.dropAnswer := { h with }
theorem LiveInv.afterIn1 (h : LiveInv s) (p : Port) : LiveInv (s.afterIn1 p) := (h.emit _).dropAnswer
theorem LiveInv.afterIn4 (h : LiveInv s) (p : Port) : LiveInv (s.afterIn4 p) := (h.emit _).dropAnswer
theorem LiveInv.setSeq (h : LiveInv s) (q : Seq) : LiveInv (s.setSeq q) := { h with }
theorem LiveInv.setSpin (h : LiveInv s) (n : Nat) : LiveInv (s.setSpin n) := { h with }
theorem LiveInv.setCfgAddr (h : LiveInv s) (a : Word) : LiveInv (s.setCfgAddr a) := { h with }
theorem LiveInv.openConfig (h : LiveInv s) (a : Word) : LiveInv (openConfig a s) := (h.emit _).setCfgAddr a
theorem LiveInv.nextId (h : LiveInv s) : LiveInv s.nextId :=
  { h with trace_ids := fun x hx => (h.trace_ids x hx).trans (Nat.le_succ _) }

theorem LiveInv.setDriver (h : LiveInv s) {d : Driver} (hd : d ≠ .none) (hf : DriverFits s.params d) :
    LiveInv (s.setDriver d) :=
  { h with driver_fits := hf, disk_needs_driver := fun _ => hd }

theorem LiveInv.setPresent (h : LiveInv s) {b : Bool} (hd : b = true → s.driver ≠ .none)
    (hx : s.xfer ≠ .idle → b = true) : LiveInv (s.setPresent b) :=
  { h with disk_needs_driver := hd, session_needs_disk := hx }

theorem LiveInv.setXfer (h : LiveInv s) {x : Xfer} (hp : x ≠ .idle → s.present = true) : LiveInv (s.setXfer x) :=
  { h with session_needs_disk := hp }

theorem LiveInv.setResult (h : LiveInv s) {r : Result} (hr : DataFits r) : LiveInv (s.setResult r) :=
  { h with data_fits := by rintro _ ⟨⟩; exact hr }

theorem LiveInv.closeConfig (h : LiveInv s) : RestsIdle (closeConfig s) := ⟨h.openConfig 0, .inr rfl⟩
theorem RestsIdle.emit (h : RestsIdle s) (e : Event) : RestsIdle (s.emit e) := ⟨h.live.emit e, h.addr_closed⟩
theorem RestsIdle.afterIn1 (h : RestsIdle s) (p : Port) : RestsIdle (s.afterIn1 p) := ⟨h.live.afterIn1 p, h.addr_closed⟩
theorem RestsIdle.nextId (h : RestsIdle s) : RestsIdle s.nextId := ⟨h.live.nextId, h.addr_closed⟩
theorem RestsIdle.setXfer (h : RestsIdle s) {x : Xfer} (hp : x ≠ .idle → s.present = true) : RestsIdle (s.setXfer x) :=
  ⟨h.live.setXfer hp, h.addr_closed⟩

/-- A request without an open address can end where it stands. -/
theorem StandsAt.restsIdle {i : Instr} {k : Pos} (h : StandsAt i k s) (ho : openAddress (.run i k) = none) :
    RestsIdle s := ⟨h.live, ho ▸ h.addr_fits⟩

end Updates

section Ends

/-! ### The ways a step ends -/

variable {s : State}

theorem LiveInv.blockInv (h : LiveInv s) (hs : SeqFits s) (ha : AddrFits (openAddress s.seq) s.cfgAddr) :
    BlockInv s where
  params_wf := h.params_wf
  legacy_fixed b hd := by simpa [hd, DriverFits] using h.driver_fits
  native_bases b bm hd := by simpa [hd, DriverFits] using h.driver_fits
  disk_needs_driver := h.disk_needs_driver
  session_needs_disk := h.session_needs_disk
  halted_iff_fatal := by simp [h.not_halted, h.not_fatal]
  fatal_reported := by simp [h.not_fatal]
  halted_idle := by simp [h.not_halted]
  seq_fits := hs
  cfg_addr := ha
  result_data r d hr hd := h.data_fits r hr d hd
  trace_ids := h.trace_ids

theorem StandsAt.blockInv {i : Instr} {k : Pos} (h : StandsAt i k s) : BlockInv (s.setSeq (.run i k)) :=
  (h.live.setSeq _).blockInv ⟨h.wellFormed, h.pos_fits⟩ h.addr_fits

theorem RestsIdle.blockInv (h : RestsIdle s) : BlockInv (s.setSeq .idle) :=
  (h.live.setSeq _).blockInv trivial h.addr_closed

theorem post_goto_blockInv {i : Instr} {k : Pos} (h : StandsAt i k s) : Post BlockInv (goto i k s) := h.blockInv

theorem RestsIdle.setResult (h : RestsIdle s) {r : Result} (hr : DataFits r) : RestsIdle (s.setResult r) :=
  ⟨h.live.setResult hr, h.addr_closed⟩

theorem dataFits_none {e : Status} {v : Word} : DataFits ⟨e, v, none⟩ := nofun

theorem post_finish_blockInv {v : Word} {data : Option (List Byte)} (h : RestsIdle s) (hd : DataFits ⟨.ok, v, data⟩) :
    Post BlockInv (finish v data s) := (h.setResult hd).blockInv

/-- A fatal error halts an idle block with its code reported (R27, R206). -/
theorem blockInv_setFatal {e : Status} {v : Word} (h : RestsIdle s) (he : e.isFatal = true) :
    BlockInv (((s.setResult ⟨e, v, none⟩).setSeq .idle).setFatal e) :=
  { (h.setResult (dataFits_none (e := e) (v := v))).blockInv with
    halted_iff_fatal := by simp
    fatal_reported := by rintro _ ⟨⟩; exact ⟨he, v, rfl⟩
    halted_idle := fun _ => rfl }

theorem post_raise_blockInv {e : Status} {v : Word} (h : RestsIdle s) : Post BlockInv (raise e v s) :=
  post_raise (fun _ => (h.setResult dataFits_none).blockInv) (blockInv_setFatal h)

end Ends

end Sys2Proof.Machine
end

section
/-! ## Facts the invariant needs about decoding and words -/

namespace Sys2Proof

theorem checkRow_eq_ok {reservedZero payloadFits : Bool} {rest : Except DecodeError Instr} {i : Instr} :
    checkRow reservedZero payloadFits rest = .ok i ↔ reservedZero = true ∧ payloadFits = true ∧ rest = .ok i := by
  cases reservedZero <;> cases payloadFits <;> simp [checkRow]

/-- What a request decodes to meets the checks of R83. -/
theorem wellFormed_of_decodeRequest {r : Request} {i : Instr} (h : decodeRequest r = .ok i) : i.WellFormed := by
  unfold decodeRequest at h
  split_ifs at h <;> obtain ⟨-, hpayload, hrest⟩ := checkRow_eq_ok.1 h
  · split at hrest -- CFG_READ
    · next hwidth => cases hrest; exact hwidth
    · cases hrest
  · cases hrest; rfl -- CFG_WRITE
  · cases hrest; rfl -- TAG_MAKE
  · split at hrest -- TAG_SPLIT
    · next htag => cases hrest; exact htag
    · cases hrest
  · cases hrest; rfl -- BAR_DECODE
  · cases hrest; rfl -- ATTACH
  · cases hrest; exact hpayload -- START
  · cases hrest; rfl -- COMPLETE
  · cases hrest; rfl -- HAS_INTR
  · cases hrest; rfl -- CLEAR_INTR

end Sys2Proof

namespace Sys2Proof.Machine

theorem wellFormed_runningInstr {i : Instr} {k : Pos} (h : i.WellFormed) : (runningInstr i k).WellFormed := by
  unfold runningInstr
  split
  · split <;> rfl
  · exact h

/-- Clearing bits 1 and 0 rounds a register offset down to a multiple of 4 (R73). -/
theorem toNat_alignedReg (reg : BitVec 8) : (reg &&& 0xFC#8).toNat = reg.toNat / 4 * 4 := by
  revert reg; decide

/-- The fields of a configuration address word do not overlap, so it is their sum (R73, R100). -/
theorem cfgAddrWord_eq_addressWord (tagf : BitVec 16) (reg : BitVec 8) :
    cfgAddrWord (tagOfField tagf) reg = addressWord tagf reg.toNat := by
  have hlow : (0x80000000#32 ||| tagf.setWidth 32 <<< 8) &&& (reg &&& 0xFC#8).setWidth 32 = 0#32 := by
    refine BitVec.eq_of_getLsbD_eq fun n hn => ?_
    interval_cases n <;> simp
  have htop : 0x80000000#32 &&& tagf.setWidth 32 <<< 8 = 0#32 := by
    refine BitVec.eq_of_getLsbD_eq fun n hn => ?_
    interval_cases n <;> simp
  unfold cfgAddrWord tagOfField
  rw [← BitVec.add_eq_or_of_and_eq_zero _ _ hlow, ← BitVec.add_eq_or_of_and_eq_zero _ _ htop]
  apply BitVec.eq_of_toNat_eq
  have := toNat_alignedReg reg
  simp only [addressWord, BitVec.toNat_add, BitVec.toNat_setWidth, BitVec.toNat_shiftLeft, BitVec.toNat_ofNat,
    Nat.shiftLeft_eq, this]
  omega

/-- A base address is a multiple of 8 (R59, R120). -/
theorem barDecode_toNat_mod (raw : Word) : (barDecode raw).toNat % 8 = 0 := by
  have hbits : barDecode raw &&& 7#16 = 0#16 := by
    refine BitVec.eq_of_getLsbD_eq fun n hn => ?_
    interval_cases n <;> simp [barDecode]
  have hnat := congrArg BitVec.toNat hbits
  rwa [BitVec.toNat_and, show (7#16).toNat = 2 ^ 3 - 1 from rfl, Nat.and_two_pow_sub_one_eq_mod] at hnat

/-- The value of a configuration read fits its width (R101, R56). -/
theorem cfgExtract_toNat_lt (v : Word) (reg : BitVec 8) (n : Nat) : (cfgExtract v reg n).toNat < 256 ^ n := by
  have hpow : 2 ^ (8 * n) = 256 ^ n := by rw [pow_mul]; rfl
  have hpos : 0 < 256 ^ n := by positivity
  calc (cfgExtract v reg n).toNat
      ≤ (byteMask n).toNat := by rw [cfgExtract, BitVec.toNat_and]; exact Nat.and_le_right
    _ ≤ 256 ^ n - 1 := by rw [byteMask, BitVec.toNat_ofNat, hpow]; exact Nat.mod_le _ _
    _ < 256 ^ n := by omega

/-- A NATIVE driver made of values read fits the invariant (R125). -/
theorem driverFits_nativeDriver {p : Params} {q : Word} (hq : IrqFits p q) (b0 b1 b4 : Word) :
    DriverFits p (nativeDriver q b0 b1 b4) :=
  ⟨barDecode_toNat_mod b0, barDecode_toNat_mod b1, barDecode_toNat_mod b4, hq⟩

theorem length_sectorBytesOf (ws : List Word) : (sectorBytesOf ws).length = 4 * ws.length := by
  induction ws with
  | nil => rfl
  | cons w ws ih =>
    rw [show sectorBytesOf (w :: ws) = wordBytes w ++ sectorBytesOf ws from rfl, List.length_append, ih]
    simp [wordBytes]; omega

/-- 128 words are the data of a read (R57, R147). -/
theorem dataFits_sectorBytesOf {ws : List Word} (h : ws.length = 128) : DataFits ⟨.ok, 0, some (sectorBytesOf ws)⟩ := by
  rintro _ ⟨⟩
  exact ⟨rfl, rfl, by rw [length_sectorBytesOf, h]⟩

end Sys2Proof.Machine
end

section
/-! ## Every step keeps the invariant (O47)

For each request: an event at a fitting position keeps the invariant, and so does the step that accepts it. -/

namespace Sys2Proof.Machine

section Positions

/-! ### Moving between positions -/

variable {i : Instr} {k : Pos} {s : State}

theorem RestsIdle.standsAt (h : RestsIdle s) (hw : i.WellFormed) (hp : PosFits s i k)
    (ho : openAddress (.run i k) = none) : StandsAt i k s := ⟨h.live, hw, hp, ho ▸ h.addr_closed⟩

theorem StandsAt.setSpin (h : StandsAt i k s) (n : Nat) : StandsAt i k (s.setSpin n) :=
  ⟨h.live.setSpin n, h.wellFormed, h.pos_fits, h.addr_fits⟩

theorem StandsAt.emit (h : StandsAt i k s) (e : Event) : StandsAt i k (s.emit e) :=
  ⟨h.live.emit e, h.wellFormed, h.pos_fits, h.addr_fits⟩

theorem StandsAt.dropAnswer (h : StandsAt i k s) : StandsAt i k s.dropAnswer :=
  ⟨h.live.dropAnswer, h.wellFormed, h.pos_fits, h.addr_fits⟩

theorem StandsAt.afterIn1 (h : StandsAt i k s) (p : Port) : StandsAt i k (s.afterIn1 p) := (h.emit _).dropAnswer

/-- A configuration read keeps the invariant where its end does (R101). -/
theorem post_configRead_blockInv {tagf : BitVec 16} {reg : BitVec 8} {at_ : CfgPhase → Pos} {done : Word → State → Out}
    {p : CfgPhase} (h : StandsAt i (at_ p) s) (hpos : ∀ q, PosFits s i (at_ q))
    (hdata : openAddress (.run i (at_ .data)) = some (addressWord tagf reg.toNat))
    (hopen : ∀ v, openAddress (.run i (at_ (.close v))) = some (addressWord tagf reg.toNat))
    (hdone : ∀ v, RestsIdle (closeConfig s) → Post BlockInv (done v (closeConfig s))) :
    Post BlockInv (configRead i (tagOfField tagf) reg at_ done p s) := by
  refine post_configRead (fun _ => ?_) (fun hp v => ?_) (fun v _ => hdone v h.live.closeConfig)
  · refine StandsAt.blockInv ⟨h.live.openConfig _, h.wellFormed, hpos _, ?_⟩
    rw [hdata, cfgAddrWord_eq_addressWord]
    rfl
  · refine StandsAt.blockInv ⟨h.live.afterIn4 _, h.wellFormed, hpos _, ?_⟩
    have haddr := h.addr_fits
    rwa [hp, hdata, ← hopen v] at haddr

/-- A status wait keeps the invariant where its end does (R140). -/
theorem post_statusWait_blockInv {b : Bases} {at_ : WaitPhase → Pos} {done : Byte → Bool} {exit : Byte → State → Out}
    {p : WaitPhase} (h : ∀ q, StandsAt i (at_ q) s) (hexit : ∀ st, Post BlockInv (exit st (s.afterIn1 (taskReg b 7)))) :
    Post BlockInv (statusWait i b at_ done exit p s) :=
  post_statusWait hexit (fun q => (((h q).afterIn1 _).setSpin _).blockInv) ((h .read).emit _).blockInv

end Positions

section Requests

/-! ### The events of each request -/

variable {k : Pos} {s : State}

theorem cfgReadGo_blockInv {tagf : BitVec 16} {reg : BitVec 8} {width : BitVec 3}
    (h : StandsAt (.cfgRead tagf reg width) k s) : Post BlockInv (cfgReadGo tagf reg width k s) := by
  cases k with
  | cfgRead p =>
    exact post_configRead_blockInv h (fun _ => trivial) rfl (fun _ => rfl)
      (fun _ hidle => post_finish_blockInv hidle dataFits_none)
  | _ => exact post_fault _

theorem cfgWriteGo_blockInv {tagf : BitVec 16} {reg : BitVec 8} {val : Word}
    (h : StandsAt (.cfgWrite tagf reg val) k s) : Post BlockInv (cfgWriteGo tagf reg val k s) := by
  cases k with
  | cfgWrite p =>
    cases p with
    | address =>
      exact post_goto_blockInv ⟨h.live.openConfig _, h.wellFormed, h.pos_fits,
        congrArg some (cfgAddrWord_eq_addressWord tagf reg)⟩
    | data => exact post_goto_blockInv ⟨h.live.emit _, h.wellFormed, h.pos_fits, h.addr_fits⟩
    | close => exact post_finish_blockInv h.live.closeConfig dataFits_none
  | _ => exact post_fault _

/-- PROBE's verdict ends ATTACH with an installed driver and no session (R124, R125). -/
theorem endProbe_blockInv (h : RestsIdle s) (hd : s.driver ≠ .none) (hp : s.present = false) (present : Bool) :
    Post BlockInv (endProbe present s) := by
  have hx : s.xfer = .idle := by
    by_contra hx
    simp [h.live.session_needs_disk hx] at hp
  have hset : RestsIdle (s.setPresent present) :=
    ⟨h.live.setPresent (fun _ => hd) (fun hn => absurd hx hn), h.addr_closed⟩
  cases present with
  | true => exact post_finish_blockInv hset dataFits_none
  | false => exact post_raise_blockInv hset

theorem afterPoll_blockInv {i : Instr} {n : Nat} (h : StandsAt i (.probePoll n) s) (hd : s.driver ≠ .none)
    (hp : s.present = false) (hnext : n + 1 < 1000 → StandsAt i (.probePoll (n + 1)) s) (r : Byte) :
    Post BlockInv (afterPoll i n r s) := by
  have hidle : RestsIdle s := h.restsIdle (by cases i <;> rfl)
  unfold afterPoll
  split
  · exact endProbe_blockInv hidle hd hp _
  · split
    · next hn => exact post_goto_blockInv (hnext hn)
    · exact endProbe_blockInv hidle hd hp _

theorem probeGo_blockInv {vendor device tagf : BitVec 16} (h : StandsAt (.attach vendor device tagf) k s) :
    Post BlockInv (probeGo (.attach vendor device tagf) k s) := by
  refine post_withBases fun b _ => ?_
  cases k with
  | probeWait p =>
    obtain ⟨hd, hp⟩ := h.pos_fits
    exact post_statusWait_blockInv (fun q => { h with }) fun _ =>
      post_goto_blockInv ⟨h.live.afterIn1 _, rfl, ⟨hd, hp, by decide⟩, h.addr_fits⟩
  | probePoll n =>
    obtain ⟨hd, hp, -⟩ := h.pos_fits
    exact afterPoll_blockInv (h.afterIn1 _) hd hp
      (fun hn => ⟨h.live.afterIn1 _, rfl, ⟨hd, hp, hn⟩, h.addr_fits⟩) _
  | _ => exact post_fault _

/-- The position PROBE begins at, after the installation of a driver (R124, R125). -/
theorem standsAt_probeWait {vendor device tagf : BitVec 16} (h : RestsIdle s) (hd : s.driver = .none) {d : Driver}
    (hne : d ≠ .none) (hf : DriverFits s.params d) :
    StandsAt (.attach vendor device tagf) (.probeWait .read) ((s.setDriver d).setSpin 0) := by
  have hp : s.present = false := by
    by_contra hp
    exact h.live.disk_needs_driver (by simpa using hp) hd
  exact ⟨(h.live.setDriver hne hf).setSpin 0, rfl, ⟨hne, hp⟩, h.addr_closed⟩

/-- A value the native handler read is kept, or completes the driver it installs (R125). -/
theorem afterNativeRead_blockInv {vendor device tagf : BitVec 16} {n : NativeRead} {x : Word} (h : RestsIdle s)
    (hd : s.driver = .none) (hkept : KeptIrqFits s.params n) (hx : n = .irq → IrqFits s.params x) :
    Post BlockInv (afterNativeRead (.attach vendor device tagf) n x s) := by
  cases n with
  | irq => exact post_goto_blockInv (h.standsAt rfl ⟨hd, hx rfl⟩ rfl)
  | bar0 q => exact post_goto_blockInv (h.standsAt rfl ⟨hd, hkept⟩ rfl)
  | bar1 q b0 => exact post_goto_blockInv (h.standsAt rfl ⟨hd, hkept⟩ rfl)
  | bar4 q b0 b1 => exact post_goto_blockInv (standsAt_probeWait h hd nofun (driverFits_nativeDriver hkept b0 b1 x))

theorem attachGo_blockInv {vendor device tagf : BitVec 16} (h : StandsAt (.attach vendor device tagf) k s) :
    Post BlockInv (attachGo vendor device tagf k s) := by
  unfold attachGo
  split
  · next n p =>
    obtain ⟨hd, hkept⟩ := h.pos_fits
    refine post_configRead_blockInv h (fun _ => ⟨hd, hkept⟩) rfl (fun _ => rfl)
      (fun v hidle => afterNativeRead_blockInv hidle hd hkept ?_)
    rintro rfl
    exact cfgExtract_toNat_lt v _ _
  · exact probeGo_blockInv h

theorem attachStart_blockInv {vendor device tagf : BitVec 16} (h : RestsIdle s) :
    Post BlockInv (attachStart vendor device tagf s) := by
  unfold attachStart
  split
  · exact post_raise_blockInv h
  · next handler _ =>
    split
    · exact post_raise_blockInv h
    · next hd =>
      replace hd : s.driver = .none := by simpa using hd
      cases handler with
      | legacy =>
        refine attachGo_blockInv (k := .probeWait .read) ?_
        exact standsAt_probeWait h hd nofun rfl
      | native =>
        refine attachGo_blockInv (k := .attachCfg .irq .address) ?_
        exact h.standsAt rfl ⟨hd, trivial⟩ rfl

/-- The command byte ends a read START with its session, and leads a write START on (R144, R145). -/
theorem issueCommand_blockInv {unit : BitVec 1} {writing : Bool} {lba : BitVec 28} {payload : List Byte}
    (h : StandsAt (.start unit writing lba payload) .startCommand s) :
    Post BlockInv (issueCommand (.start unit writing lba payload) writing s) := by
  obtain ⟨hp, hx⟩ := h.pos_fits
  refine post_withBases fun b _ => ?_
  cases writing with
  | true => exact post_goto_blockInv ⟨h.live.emit _, h.wellFormed, ⟨hp, hx, rfl⟩, h.addr_fits⟩
  | false => exact post_finish_blockInv (((h.restsIdle rfl).emit _).setXfer fun _ => hp) dataFits_none

theorem startGo_blockInv {unit : BitVec 1} {writing : Bool} {lba : BitVec 28} {payload : List Byte}
    (h : StandsAt (.start unit writing lba payload) k s) :
    Post BlockInv (startGo unit writing lba payload k s) := by
  refine post_withBases fun b _ => ?_
  cases k with
  | startWait p =>
    exact post_statusWait_blockInv (fun q => { h with }) fun _ =>
      post_goto_blockInv ⟨h.live.afterIn1 _, h.wellFormed, h.pos_fits, h.addr_fits⟩
  | startReg r =>
    have hnext : StandsAt (.start unit writing lba payload) r.next s := by
      cases r <;> exact { h with }
    exact post_goto_blockInv (hnext.emit _)
  | startCommand => exact issueCommand_blockInv h
  | startDrq =>
    obtain ⟨hp, hx, hw⟩ := h.pos_fits
    refine post_goto_blockInv (StandsAt.afterIn1 ?_ _)
    split
    · exact ⟨h.live, h.wellFormed, ⟨hp, hx, hw, by decide⟩, h.addr_fits⟩
    · exact h
  | startPush n =>
    obtain ⟨hp, hx, hw, -⟩ := h.pos_fits
    show Post BlockInv (afterPush _ _ _)
    unfold afterPush
    split
    · next hn => exact post_goto_blockInv ⟨h.live.emit _, h.wellFormed, ⟨hp, hx, hw, hn⟩, h.addr_fits⟩
    · exact post_finish_blockInv (((h.restsIdle rfl).emit _).setXfer fun _ => hp) dataFits_none
  | _ => exact post_fault _

theorem afterPull_blockInv {writing : Bool} {got : List Word} (h : StandsAt (.complete writing) (.completePull []) s)
    (hlen : got.length ≤ 128) : Post BlockInv (afterPull (.complete writing) got s) := by
  obtain ⟨hp, hx, hw, -⟩ := h.pos_fits
  unfold afterPull
  split
  · next hn => exact post_goto_blockInv ⟨h.live, h.wellFormed, ⟨hp, hx, hw, hn⟩, h.addr_fits⟩
  · next hn =>
    exact post_finish_blockInv ((h.restsIdle rfl).setXfer fun hne => absurd rfl hne)
      (dataFits_sectorBytesOf (hlen.antisymm (not_lt.1 hn)))

theorem completeGo_blockInv {writing : Bool} (h : StandsAt (.complete writing) k s) :
    Post BlockInv (completeGo writing k s) := by
  refine post_withBases fun b _ => ?_
  cases k with
  | completeWait p =>
    obtain ⟨hp, hx, hw⟩ := h.pos_fits
    refine post_statusWait_blockInv (fun q => { h with }) fun st => ?_
    unfold afterCheckedWait
    split
    · exact post_goto_blockInv ⟨h.live.afterIn1 _, h.wellFormed, ⟨hp, hx, hw, by decide⟩, h.addr_fits⟩
    · exact post_raise_blockInv (((h.restsIdle rfl).afterIn1 _).setXfer fun hne => absurd rfl hne)
  | completePull got =>
    obtain ⟨hp, hx, hw, hlen⟩ := h.pos_fits
    exact afterPull_blockInv ⟨h.live.afterIn4 _, h.wellFormed, ⟨hp, hx, hw, by decide⟩, h.addr_fits⟩
      (by simpa using hlen)
  | _ => exact post_fault _

theorem hasIntrGo_blockInv (h : StandsAt .hasIntr k s) : Post BlockInv (hasIntrGo k s) := by
  refine post_withNative fun b bm _ => ?_
  cases k with
  | hasIntrRead => exact post_finish_blockInv ((h.restsIdle rfl).afterIn1 _) dataFits_none
  | _ => exact post_fault _

/-- After the status reads a NATIVE driver's busmaster is read, else the interrupt is acknowledged (R172). -/
theorem StandsAt.afterStatusReads (h : StandsAt .clearIntr .clearStatus2 s) :
    StandsAt .clearIntr (afterStatusReads s.driver) s := by
  cases hd : s.driver with
  | none => exact absurd hd h.pos_fits
  | legacy b => exact { h with }
  | native b bm => exact ⟨h.live, rfl, ⟨b, bm, hd⟩, h.addr_fits⟩

theorem clearIntrGo_blockInv (h : StandsAt .clearIntr k s) : Post BlockInv (clearIntrGo k s) := by
  cases k with
  | clearStatus1 => 
    exact post_withBases fun b _ => post_goto_blockInv ⟨h.live.afterIn1 _, rfl, h.pos_fits, h.addr_fits⟩
  | clearStatus2 => exact post_withBases fun b _ => post_goto_blockInv (h.afterStatusReads.afterIn1 _)
  | clearBmRead =>
    refine post_withNative fun b bm hd => ?_
    dsimp only
    split
    · exact post_raise_blockInv ((h.restsIdle rfl).afterIn1 _)
    · next hok =>
      exact post_goto_blockInv ⟨h.live.afterIn1 _, rfl, ⟨⟨b, bm, hd⟩, by simpa using hok⟩, h.addr_fits⟩
  | clearBmWrite byte =>
    refine post_withNative fun b bm hd => post_goto_blockInv ⟨h.live.emit _, rfl, ?_, h.addr_fits⟩
    show s.driver ≠ .none
    simp [hd]
  | clearEoi =>
    exact post_withBases fun b _ => post_finish_blockInv ((h.restsIdle rfl).emit _) dataFits_none
  | _ => exact post_fault _

end Requests

section Exec

/-! ### `exec` and `step` -/

variable {s : State}

/-- A request keeps the invariant where its start from an idle block and its further events do. -/
theorem post_onRequest_blockInv {i : Instr} {check : State → Option Refusal} {start : State → Out}
    {go : Pos → State → Out} (h : BlockInv s)
    (hstart : RestsIdle s.nextId → check s = none → Post BlockInv (start s.nextId))
    (hgo : ∀ k, StandsAt i k s → Post BlockInv (go k s)) : Post BlockInv (onRequest i check start go s) :=
  post_onRequest (fun hr hc => hstart (restsIdle_of_blockInv h hr).nextId hc)
    (fun k hk => hgo k (standsAt_of_blockInv h hk)) h

/-- TAG_MAKE, TAG_SPLIT and BAR_DECODE return at once. -/
theorem post_pureRequest_blockInv {i : Instr} {check : State → Option Refusal} {v : Word} (h : BlockInv s) :
    Post BlockInv (onRequest i check (finish v none) noPosition s) :=
  post_onRequest_blockInv h (fun hi _ => post_finish_blockInv hi dataFits_none) fun _ _ => post_fault _

theorem execCfgRead_blockInv {tagf : BitVec 16} {reg : BitVec 8} {width : BitVec 3} (h : BlockInv s)
    (hw : (Instr.cfgRead tagf reg width).WellFormed) : Post BlockInv (execCfgRead tagf reg width s) :=
  post_onRequest_blockInv h (fun hi _ => cfgReadGo_blockInv (hi.standsAt hw trivial rfl)) fun _ => cfgReadGo_blockInv

theorem execCfgWrite_blockInv {tagf : BitVec 16} {reg : BitVec 8} {val : Word} (h : BlockInv s) :
    Post BlockInv (execCfgWrite tagf reg val s) := by
  refine post_onRequest_blockInv h (fun hi _ => ?_) fun _ => cfgWriteGo_blockInv
  split
  · exact post_raise_blockInv hi
  · next haligned => exact cfgWriteGo_blockInv (hi.standsAt rfl (not_not.1 haligned) rfl)

theorem execTagMake_blockInv {bus : BitVec 8} {dev : BitVec 5} {fn : BitVec 3} (h : BlockInv s) :
    Post BlockInv (execTagMake bus dev fn s) := post_pureRequest_blockInv h

theorem execTagSplit_blockInv {tag : Word} (h : BlockInv s) : Post BlockInv (execTagSplit tag s) :=
  post_pureRequest_blockInv h

theorem execBarDecode_blockInv {raw : Word} (h : BlockInv s) : Post BlockInv (execBarDecode raw s) :=
  post_pureRequest_blockInv h

theorem execAttach_blockInv {vendor device tagf : BitVec 16} (h : BlockInv s) :
    Post BlockInv (execAttach vendor device tagf s) :=
  post_onRequest_blockInv h (fun hi _ => attachStart_blockInv hi) fun _ => attachGo_blockInv

theorem ataCheck_eq_none {session : Xfer} (h : ataCheck session s = none) :
    s.driver ≠ .none ∧ s.present = true ∧ s.xfer = session := by
  simpa [ataCheck, refuseUnless_eq_none] using h

theorem execStart_blockInv {unit : BitVec 1} {writing : Bool} {lba : BitVec 28} {payload : List Byte} (h : BlockInv s) :
    Post BlockInv (execStart unit writing lba payload s) := by
  refine post_onRequest_blockInv h (fun hi hc => ?_) fun _ => startGo_blockInv
  obtain ⟨hpayload, hata⟩ := refuseUnless_eq_none.1 hc
  obtain ⟨-, hp, hx⟩ := ataCheck_eq_none hata
  have hstands : StandsAt (.start unit writing lba payload) (.startWait .read) s.nextId :=
    hi.standsAt hpayload ⟨hp, hx⟩ rfl
  exact startGo_blockInv (hstands.setSpin 0)

theorem execComplete_blockInv {writing : Bool} (h : BlockInv s) : Post BlockInv (execComplete writing s) := by
  refine post_onRequest_blockInv h (fun hi hc => ?_) fun _ => completeGo_blockInv
  obtain ⟨-, hp, hx⟩ := ataCheck_eq_none hc
  cases writing with
  | true => exact post_finish_blockInv (hi.setXfer fun hne => absurd rfl hne) dataFits_none
  | false =>
    have hstands : StandsAt (.complete false) (.completeWait .read) s.nextId := hi.standsAt rfl ⟨hp, hx, rfl⟩ rfl
    exact completeGo_blockInv (hstands.setSpin 0)

theorem driverCheck_eq_none (h : driverCheck s = none) : s.driver ≠ .none := by
  simpa [driverCheck, refuseUnless_eq_none] using h

/-- With a driver that is not LEGACY, HAS_INTR has a busmaster to read (R171). -/
theorem nativeInstalled_of_ne (hn : s.driver ≠ .none) (hl : s.variant ≠ .legacy) : NativeInstalled s := by
  cases hd : s.driver with
  | none => exact absurd hd hn
  | legacy b => simp [State.variant, hd, Driver.variant] at hl
  | native b bm => exact ⟨b, bm, hd⟩

theorem execHasIntr_blockInv (h : BlockInv s) : Post BlockInv (execHasIntr s) := by
  refine post_onRequest_blockInv h (fun hi hc => ?_) fun _ => hasIntrGo_blockInv
  split
  · exact post_finish_blockInv hi dataFits_none
  · next hl => exact hasIntrGo_blockInv (hi.standsAt rfl (nativeInstalled_of_ne (driverCheck_eq_none hc) hl) rfl)

theorem execClearIntr_blockInv (h : BlockInv s) : Post BlockInv (execClearIntr s) :=
  post_onRequest_blockInv h (fun hi hc => clearIntrGo_blockInv (hi.standsAt rfl (driverCheck_eq_none hc) rfl))
    fun _ => clearIntrGo_blockInv

theorem deviceCommand_blockInv {writing : Bool} (h : BlockInv s) : Post BlockInv (deviceCommand writing s) :=
  post_deviceCommand (fun _ _ _ hr => issueCommand_blockInv (standsAt_of_blockInv h hr)) h

/-- `exec` of a well-formed instruction keeps the invariant. -/
theorem exec_blockInv {i : Instr} (h : BlockInv s) (hw : i.WellFormed) : Post BlockInv (exec i s) := by
  cases i with
  | cfgRead tagf reg width => exact execCfgRead_blockInv h hw
  | cfgWrite tagf reg val => exact execCfgWrite_blockInv h
  | tagMake bus dev fn => exact execTagMake_blockInv h
  | tagSplit tag => exact execTagSplit_blockInv h
  | barDecode raw => exact execBarDecode_blockInv h
  | attach vendor device tagf => exact execAttach_blockInv h
  | start unit writing lba payload => exact execStart_blockInv h
  | complete writing => exact execComplete_blockInv h
  | hasIntr => exact execHasIntr_blockInv h
  | clearIntr => exact execClearIntr_blockInv h
  | ataCmdRead => exact deviceCommand_blockInv h
  | ataCmdWrite => exact deviceCommand_blockInv h

theorem blockInv_setRequests (h : BlockInv s) (rs : List Request) : BlockInv (s.setRequests rs) := { h with }

/-- What a step that is no idle wait runs: a well-formed instruction, in a state that meets the invariant and differs
from `s` in the host's list alone. -/
theorem step_cases_of_blockInv {t : State} (h : BlockInv s) (hs : step s = .next t) :
    t = s ∨ ∃ i rs, i.WellFormed ∧ BlockInv (s.setRequests rs) ∧ exec i (s.setRequests rs) = .next t := by
  obtain ⟨-, -, rfl⟩ | ⟨r, rs, i, -, -, hd, he⟩ | ⟨i, k, hr, he⟩ := step_eq_next hs
  · exact .inl rfl
  · exact .inr ⟨i, rs, wellFormed_of_decodeRequest hd, blockInv_setRequests h rs, he⟩
  · exact .inr ⟨runningInstr i k, s.requests, wellFormed_runningInstr (standsAt_of_blockInv h hr).wellFormed, h, he⟩

end Exec

/-- Settles O47: a step runs one instruction, and `exec` keeps the invariant. -/
theorem stepKeepsInvariant : Obligations.StepKeepsInvariant := by
  intro s t h hs
  obtain rfl | ⟨i, rs, hw, hi, he⟩ := step_cases_of_blockInv h hs
  · exact h
  · exact post_iff.1 (exec_blockInv hi hw) t he

end Sys2Proof.Machine
end

section
/-! ## What requests leave alone: the driver and `present` (O56, O25, O26) -/

namespace Sys2Proof.Machine

section Frames

variable {k : Pos} {s t : State}

/-- The parameters, the driver, `present` and the host's requests are as they were. -/
def KeepsDevice (s t : State) : Prop :=
  t.params = s.params ∧ t.driver = s.driver ∧ t.present = s.present ∧ t.requests = s.requests

theorem KeepsDevice.refl (s : State) : KeepsDevice s s := ⟨rfl, rfl, rfl, rfl⟩

theorem raise_keepsDevice {e : Status} {v : Word} : Post (KeepsDevice s) (raise e v s) :=
  post_raise (fun _ => .refl s) fun _ => .refl s

theorem statusWait_keepsDevice {i : Instr} {b : Bases} {at_ : WaitPhase → Pos} {done : Byte → Bool}
    {exit : Byte → State → Out} {p : WaitPhase}
    (hexit : ∀ st, Post (KeepsDevice s) (exit st (s.afterIn1 (taskReg b 7)))) :
    Post (KeepsDevice s) (statusWait i b at_ done exit p s) :=
  post_statusWait hexit (fun _ => .refl s) (.refl s)

/-! ### The requests other than ATTACH -/

theorem cfgReadGo_keepsDevice {tagf : BitVec 16} {reg : BitVec 8} {width : BitVec 3} :
    Post (KeepsDevice s) (cfgReadGo tagf reg width k s) := by
  cases k with
  | cfgRead p => exact post_configRead (fun _ => .refl s) (fun _ _ => .refl s) fun _ _ => post_finish.2 (.refl s)
  | _ => exact post_fault _

theorem cfgWriteGo_keepsDevice {tagf : BitVec 16} {reg : BitVec 8} {val : Word} :
    Post (KeepsDevice s) (cfgWriteGo tagf reg val k s) := by
  cases k with
  | cfgWrite p => cases p <;> exact KeepsDevice.refl s
  | _ => exact post_fault _

theorem issueCommand_keepsDevice {i : Instr} {writing : Bool} : Post (KeepsDevice s) (issueCommand i writing s) := by
  refine post_withBases fun b _ => ?_
  cases writing <;> exact KeepsDevice.refl s

theorem startGo_keepsDevice {unit : BitVec 1} {writing : Bool} {lba : BitVec 28} {payload : List Byte} :
    Post (KeepsDevice s) (startGo unit writing lba payload k s) := by
  refine post_withBases fun b _ => ?_
  cases k with
  | startWait p => exact statusWait_keepsDevice fun _ => post_goto.2 (.refl s)
  | startReg r => exact post_goto.2 (.refl s)
  | startCommand => exact issueCommand_keepsDevice
  | startDrq => exact post_goto.2 (.refl s)
  | startPush n =>
    show Post _ (afterPush _ _ _)
    unfold afterPush
    split <;> exact KeepsDevice.refl s
  | _ => exact post_fault _

theorem completeGo_keepsDevice {writing : Bool} : Post (KeepsDevice s) (completeGo writing k s) := by
  refine post_withBases fun b _ => ?_
  cases k with
  | completeWait p =>
    refine statusWait_keepsDevice fun st => ?_
    unfold afterCheckedWait
    split
    · exact post_goto.2 (.refl s)
    · exact raise_keepsDevice
  | completePull got =>
    show Post _ (afterPull _ _ _)
    unfold afterPull
    split <;> exact KeepsDevice.refl s
  | _ => exact post_fault _

theorem hasIntrGo_keepsDevice : Post (KeepsDevice s) (hasIntrGo k s) := by
  refine post_withNative fun b bm _ => ?_
  cases k with
  | hasIntrRead => exact post_finish.2 (.refl s)
  | _ => exact post_fault _

theorem clearIntrGo_keepsDevice : Post (KeepsDevice s) (clearIntrGo k s) := by
  cases k with
  | clearStatus1 => exact post_withBases fun _ _ => post_goto.2 (.refl s)
  | clearStatus2 => exact post_withBases fun _ _ => post_goto.2 (.refl s)
  | clearBmRead =>
    refine post_withNative fun b bm _ => ?_
    dsimp only
    split
    · exact raise_keepsDevice
    · exact post_goto.2 (.refl s)
  | clearBmWrite byte => exact post_withNative fun _ _ _ => post_goto.2 (.refl s)
  | clearEoi => exact post_withBases fun _ _ => post_finish.2 (.refl s)
  | _ => exact post_fault _

theorem deviceCommand_keepsDevice {writing : Bool} : Post (KeepsDevice s) (deviceCommand writing s) :=
  post_deviceCommand (fun _ _ _ _ => issueCommand_keepsDevice) (.refl s)

/-- A request keeps the device's fields where its start and its further events do. -/
theorem onRequest_keepsDevice {i : Instr} {check : State → Option Refusal} {start : State → Out}
    {go : Pos → State → Out} (hstart : ∀ u, Post (KeepsDevice u) (start u))
    (hgo : ∀ k u, Post (KeepsDevice u) (go k u)) : Post (KeepsDevice s) (onRequest i check start go s) :=
  post_onRequest (fun _ _ => hstart s.nextId) (fun k _ => hgo k s) (.refl s)

/-- TAG_MAKE, TAG_SPLIT and BAR_DECODE return at once. -/
theorem pureRequest_keepsDevice {i : Instr} {check : State → Option Refusal} {v : Word} :
    Post (KeepsDevice s) (onRequest i check (finish v none) noPosition s) :=
  onRequest_keepsDevice (fun u => post_finish.2 (.refl u)) fun _ _ => post_fault _

/-- Only ATTACH writes the driver or `present` (R25, R26). -/
theorem exec_keepsDevice {i : Instr} (hi : ∀ vendor device tagf, i ≠ .attach vendor device tagf) :
    Post (KeepsDevice s) (exec i s) := by
  unfold exec
  cases i with
  | attach vendor device tagf => exact absurd rfl (hi vendor device tagf)
  | cfgRead tagf reg width =>
    exact onRequest_keepsDevice (fun _ => cfgReadGo_keepsDevice) fun _ _ => cfgReadGo_keepsDevice
  | cfgWrite tagf reg val =>
    refine onRequest_keepsDevice (fun u => ?_) fun _ _ => cfgWriteGo_keepsDevice
    split
    · exact raise_keepsDevice
    · exact cfgWriteGo_keepsDevice
  | tagMake bus dev fn => exact pureRequest_keepsDevice
  | tagSplit tag => exact pureRequest_keepsDevice
  | barDecode raw => exact pureRequest_keepsDevice
  | start unit writing lba payload =>
    exact onRequest_keepsDevice (fun u => startGo_keepsDevice (s := u.setSpin 0)) fun _ _ => startGo_keepsDevice
  | complete writing =>
    refine onRequest_keepsDevice (fun u => ?_) fun _ _ => completeGo_keepsDevice
    split
    · exact post_finish.2 (.refl u)
    · exact completeGo_keepsDevice (s := u.setSpin 0)
  | hasIntr =>
    refine onRequest_keepsDevice (fun u => ?_) fun _ _ => hasIntrGo_keepsDevice
    split
    · exact post_finish.2 (.refl u)
    · exact hasIntrGo_keepsDevice
  | clearIntr => exact onRequest_keepsDevice (fun _ => clearIntrGo_keepsDevice) fun _ _ => clearIntrGo_keepsDevice
  | ataCmdRead => exact deviceCommand_keepsDevice
  | ataCmdWrite => exact deviceCommand_keepsDevice

/-! ### ATTACH -/

/-- What ATTACH at position `k` leaves alone: the parameters, the session, the host's requests; and `present`, but for
the last poll of an installed driver. -/
def AttachKeeps (k : Pos) (s t : State) : Prop :=
  t.params = s.params ∧ t.xfer = s.xfer ∧ t.requests = s.requests ∧
    (t.present = s.present ∨ ((∃ n, k = .probePoll n) ∧ s.driver ≠ .none ∧ t.seq = .idle))

/-- The driver fields and the configuration address are as they were. -/
def KeepsDriver (s t : State) : Prop := t.driver = s.driver ∧ t.cfgAddr = s.cfgAddr

theorem KeepsDriver.refl (s : State) : KeepsDriver s s := ⟨rfl, rfl⟩

/-- What PROBE leaves alone. -/
def ProbeKeeps (k : Pos) (s t : State) : Prop := AttachKeeps k s t ∧ KeepsDriver s t

theorem endProbe_keeps {n : Nat} (hd : s.driver ≠ .none) (present : Bool) :
    Post (ProbeKeeps (.probePoll n) s) (endProbe present s) := by
  cases present <;> exact ⟨⟨rfl, rfl, rfl, .inr ⟨⟨n, rfl⟩, hd, rfl⟩⟩, .refl s⟩

theorem afterPoll_keeps {i : Instr} {n : Nat} (hd : s.driver ≠ .none) (r : Byte) :
    Post (ProbeKeeps (.probePoll n) s) (afterPoll i n r s) := by
  unfold afterPoll
  split
  · exact endProbe_keeps hd _
  · split
    · exact post_goto.2 ⟨⟨rfl, rfl, rfl, .inl rfl⟩, .refl s⟩
    · exact endProbe_keeps hd _

theorem probeGo_keeps {i : Instr} : Post (ProbeKeeps k s) (probeGo i k s) := by
  refine post_withBases fun b hb => ?_
  have hd : s.driver ≠ .none := by
    intro hd
    simp [hd, Driver.bases] at hb
  cases k with
  | probeWait p =>
    exact post_statusWait (fun _ => post_goto.2 ⟨⟨rfl, rfl, rfl, .inl rfl⟩, .refl s⟩)
      (fun _ => ⟨⟨rfl, rfl, rfl, .inl rfl⟩, .refl s⟩) ⟨⟨rfl, rfl, rfl, .inl rfl⟩, .refl s⟩
  | probePoll n => exact afterPoll_keeps (s := s.afterIn1 _) hd _
  | _ => exact post_fault _

theorem attachGo_keeps {vendor device tagf : BitVec 16} : Post (AttachKeeps k s) (attachGo vendor device tagf k s) := by
  unfold attachGo
  split
  · next n p =>
    refine post_configRead (fun _ => ⟨rfl, rfl, rfl, .inl rfl⟩) (fun _ _ => ⟨rfl, rfl, rfl, .inl rfl⟩) fun v _ => ?_
    cases n <;> exact post_goto.2 ⟨rfl, rfl, rfl, .inl rfl⟩
  · exact probeGo_keeps.mono fun _ ht => ht.1

/-- ATTACH accepted by an idle block takes no poll. -/
theorem attachStart_keeps {vendor device tagf : BitVec 16} :
    Post (AttachKeeps (.probeWait .read) s) (attachStart vendor device tagf s) := by
  unfold attachStart
  split
  · exact post_raise (fun _ => ⟨rfl, rfl, rfl, .inl rfl⟩) fun _ => ⟨rfl, rfl, rfl, .inl rfl⟩
  · next handler _ =>
    split
    · exact post_raise (fun _ => ⟨rfl, rfl, rfl, .inl rfl⟩) fun _ => ⟨rfl, rfl, rfl, .inl rfl⟩
    · cases handler with
      | legacy =>
        refine (attachGo_keeps (k := .probeWait .read) (s := (s.setDriver legacyDriver).setSpin 0)).mono ?_
        rintro t ⟨hparams, hxfer, hrequests, hp | ⟨⟨_, ⟨⟩⟩, -⟩⟩
        exact ⟨hparams, hxfer, hrequests, .inl hp⟩
      | native => exact post_goto.2 ⟨rfl, rfl, rfl, .inl rfl⟩

theorem AttachKeeps.present_eq (h : AttachKeeps k s t) (hk : ∀ n, k ≠ .probePoll n) : t.present = s.present := by
  obtain ⟨-, -, -, hp | ⟨⟨n, hn⟩, -⟩⟩ := h
  · exact hp
  · exact absurd hn (hk n)

/-- A registry hit with a driver installed raises DuplicateDeviceError (R123). -/
theorem attachStart_of_installed {vendor device tagf : BitVec 16} (hd : s.driver ≠ .none)
    (hit : lookupHandler s.params.attachTable vendor device ≠ none) :
    attachStart vendor device tagf s = raise .duplicateDevice 0 s := by
  obtain ⟨handler, hh⟩ := Option.ne_none_iff_exists'.1 hit
  simp [attachStart, hh, hd]

/-- With a driver installed, ATTACH starts no handler. -/
theorem attachStart_keepsDriver {vendor device tagf : BitVec 16} (hd : s.driver ≠ .none) :
    Post (KeepsDriver s) (attachStart vendor device tagf s) := by
  by_cases hit : lookupHandler s.params.attachTable vendor device = none
  · simp only [attachStart, hit]
    exact post_raise (fun _ => .refl s) fun _ => .refl s
  · rw [attachStart_of_installed hd hit]
    exact post_raise (fun _ => .refl s) fun _ => .refl s

/-- With a driver installed, a running ATTACH stands in PROBE. -/
theorem attachGo_keepsDriver {vendor device tagf : BitVec 16} (h : StandsAt (.attach vendor device tagf) k s)
    (hd : s.driver ≠ .none) : Post (KeepsDriver s) (attachGo vendor device tagf k s) := by
  unfold attachGo
  split
  · exact absurd h.pos_fits.1 hd
  · exact probeGo_keeps.mono fun _ ht => ht.2

theorem execAttach_keepsDriver {vendor device tagf : BitVec 16} (h : BlockInv s) (hd : s.driver ≠ .none) :
    Post (KeepsDriver s) (execAttach vendor device tagf s) :=
  post_onRequest (fun _ _ => attachStart_keepsDriver (s := s.nextId) hd)
    (fun _ hk => attachGo_keepsDriver (standsAt_of_blockInv h hk) hd) (.refl s)

/-- ATTACH either leaves `present` alone or is a running one's last poll. -/
theorem execAttach_keeps {vendor device tagf : BitVec 16} :
    Post (fun t => ∃ k, AttachKeeps k s t ∧
      (t.present ≠ s.present → s.seq = .run (.attach vendor device tagf) k)) (execAttach vendor device tagf s) := by
  refine post_onRequest (fun _ _ => ?_) (fun k hk => ?_) 
    ⟨.probeWait .read, ⟨rfl, rfl, rfl, .inl rfl⟩, fun hne => absurd rfl hne⟩
  · exact (attachStart_keeps (s := s.nextId)).mono fun t ht =>
      ⟨_, ht, fun hne => absurd (ht.present_eq nofun) hne⟩
  · exact attachGo_keeps.mono fun t ht => ⟨k, ht, fun _ => hk.2⟩

end Frames

/-! ### The statements -/

/-- Settles O56: ATTACH's frame, whose second half rests on PROBE being the only part that runs with a driver. -/
theorem attachFrame : Obligations.AttachFrame := by
  intro s t vendor device tagf he
  obtain ⟨k, ⟨hparams, hxfer, hrequests, -⟩, -⟩ := post_iff.1 execAttach_keeps t he
  exact ⟨hparams, hxfer, hrequests, fun h hd => post_iff.1 (execAttach_keepsDriver h hd) t he⟩

/-- Every instruction leaves an installed driver alone (R25). -/
theorem exec_keeps_installed_driver {s t : State} {i : Instr} (h : BlockInv s) (hd : s.driver ≠ .none)
    (he : exec i s = .next t) : t.driver = s.driver := by
  by_cases hi : ∃ vendor device tagf, i = .attach vendor device tagf
  · obtain ⟨vendor, device, tagf, rfl⟩ := hi
    exact (post_iff.1 (execAttach_keepsDriver h hd) t he).1
  · push Not at hi
    obtain ⟨-, hdriver, -⟩ := post_iff.1 (exec_keepsDevice hi) t he
    exact hdriver

/-- Settles O25: no instruction writes an installed driver, and a second ATTACH raises before its handler. -/
theorem driverIsWrittenOnce : Obligations.DriverIsWrittenOnce := by
  refine ⟨fun s t h hs hd => ?_, fun s vendor device tagf hr hd hit => ?_⟩
  · obtain rfl | ⟨i, rs, -, hi, he⟩ := step_cases_of_blockInv h hs
    · rfl
    · exact exec_keeps_installed_driver (s := s.setRequests rs) hi hd he
  · have haccept : execAttach vendor device tagf s = attachStart vendor device tagf s.nextId := onRequest_ready hr rfl
    have hraise := attachStart_of_installed (s := s.nextId) (tagf := tagf) hd hit
    exact ⟨_, haccept.trans (hraise.trans (raise_of_fatal rfl _ _)), rfl, rfl⟩

/-- An instruction that writes `present` is ATTACH at its last poll (R26). -/
theorem exec_present_ne {s t : State} {i : Instr} (he : exec i s = .next t) (hne : t.present ≠ s.present) :
    ∃ vendor device tagf n, s.seq = .run (.attach vendor device tagf) (.probePoll n) ∧ s.driver ≠ .none ∧
      t.seq = .idle := by
  by_cases hi : ∃ vendor device tagf, i = .attach vendor device tagf
  · obtain ⟨vendor, device, tagf, rfl⟩ := hi
    obtain ⟨k, ⟨-, -, -, hp⟩, hseq⟩ := post_iff.1 execAttach_keeps t he
    obtain ⟨⟨n, rfl⟩, hd, hidle⟩ := hp.resolve_left hne
    exact ⟨vendor, device, tagf, n, hseq hne, hd, hidle⟩
  · push Not at hi
    obtain ⟨-, -, hpresent, -⟩ := post_iff.1 (exec_keepsDevice hi) t he
    exact absurd hpresent hne

/-- Settles O26: a step runs one instruction, and only ATTACH's last poll writes `present`. -/
theorem presentIsWrittenByTheProbe : Obligations.PresentIsWrittenByTheProbe := by
  intro s t h hs hne
  obtain rfl | ⟨i, rs, -, -, he⟩ := step_cases_of_blockInv h hs
  · exact absurd rfl hne
  · exact exec_present_ne (s := s.setRequests rs) he hne

end Sys2Proof.Machine
end

section
/-! ## The block's port discipline (O50)

Each event of the model is one `AllowedEvent` under the driver it runs on. A part of a step then records nothing or one
such event (`RecordsAllowed`), and so does every instruction. -/

namespace Sys2Proof.Machine

section AllowedEvents

/-! ### The events of the block are allowed (R53, R54) -/

variable {p : Params} {d : Driver} {b : Bases} {bm : Port}

theorem taskReg_zero (b : Bases) : taskReg b 0 = b.cmd := BitVec.add_zero _

theorem allowed_cfgAddress (tagf : BitVec 16) (reg : BitVec 8) :
    AllowedEvent p d (.out4 Config.cfgAddrPort (cfgAddrWord (tagOfField tagf) reg)) :=
  .inl ⟨rfl, .inr ⟨tagf, reg.toNat, cfgAddrWord_eq_addressWord tagf reg, reg.isLt⟩⟩

theorem allowed_cfgClose : AllowedEvent p d (.out4 Config.cfgAddrPort 0) := .inl ⟨rfl, .inl rfl⟩
theorem allowed_cfgDataOut (v : Word) : AllowedEvent p d (.out4 Config.cfgDataPort v) := .inr (.inl rfl)
theorem allowed_cfgDataIn (v : Word) : AllowedEvent p d (.in4 Config.cfgDataPort v) := .inl rfl

theorem allowed_status (hb : d.bases = some b) (v : Byte) : AllowedEvent p d (.in1 (taskReg b 7) v) :=
  .inl ⟨b, hb, .inl rfl⟩

/-- PROBE polls the sector count register only where P_PROBE_REG names it (R143). -/
theorem allowed_poll (hb : d.bases = some b) (v : Byte) :
    AllowedEvent p d (.in1 (taskReg b (probeOffset p.probeReg)) v) := by
  cases hreg : p.probeReg with
  | sectorCount => exact .inl ⟨b, hb, .inr ⟨rfl, hreg⟩⟩
  | status => exact allowed_status hb v

theorem allowed_dataIn (hb : d.bases = some b) (v : Word) : AllowedEvent p d (.in4 (taskReg b 0) v) :=
  .inr ⟨b, hb, taskReg_zero b⟩

theorem allowed_dataOut (hb : d.bases = some b) (v : Word) : AllowedEvent p d (.out4 (taskReg b 0) v) :=
  .inr (.inr ⟨b, hb, taskReg_zero b⟩)

/-- The drive/head byte has bits 7 to 5 set (R74). -/
theorem driveHeadByte_and (unit : BitVec 1) (lba : BitVec 28) : driveHeadByte unit lba &&& 0xE0 = 0xE0 := by
  refine BitVec.eq_of_getLsbD_eq fun n hn => ?_
  interval_cases n <;> simp [driveHeadByte]

theorem allowed_startReg (hb : d.bases = some b) (unit : BitVec 1) (lba : BitVec 28) (r : StartReg) :
    AllowedEvent p d (r.event b unit lba) := by
  cases r with
  | control => exact .inl ⟨b, hb, .inl ⟨rfl, rfl⟩⟩
  | sectorCount => exact .inl ⟨b, hb, .inr (.inl ⟨rfl, rfl⟩)⟩
  | lbaLow => exact .inl ⟨b, hb, .inr (.inr (.inl rfl))⟩
  | lbaMid => exact .inl ⟨b, hb, .inr (.inr (.inr (.inl rfl)))⟩
  | lbaHigh => exact .inl ⟨b, hb, .inr (.inr (.inr (.inr (.inl rfl))))⟩
  | driveHead => exact .inl ⟨b, hb, .inr (.inr (.inr (.inr (.inr (.inl ⟨rfl, driveHeadByte_and unit lba⟩)))))⟩

theorem allowed_command (hb : d.bases = some b) (writing : Bool) :
    AllowedEvent p d (.out1 (taskReg b 7) (commandByte writing)) := by
  have hbyte : commandByte writing = 0x20 ∨ commandByte writing = 0x30 := by cases writing <;> decide
  exact .inl ⟨b, hb, .inr (.inr (.inr (.inr (.inr (.inr ⟨rfl, hbyte⟩)))))⟩

theorem allowed_diag (hb : d.bases = some b) : AllowedEvent p d (.diag b.cmd) := ⟨b, hb, rfl⟩

theorem allowed_bmRead (hd : d = .native b bm) (v : Byte) : AllowedEvent p d (.in1 (bmStatusPort bm) v) :=
  .inr ⟨b, bm, hd, rfl⟩

theorem allowed_bmWrite (hd : d = .native b bm) {v : Byte} (hv : bmError v = false) :
    AllowedEvent p d (.out1 (bmStatusPort bm) v) := .inr ⟨b, bm, hd, rfl, hv⟩

theorem allowed_eoi (hb : d.bases = some b) : AllowedEvent p d (.eoi (eoiIrq d)) := by
  cases d with
  | none => cases hb
  | legacy b => exact .inl ⟨b, rfl, rfl⟩
  | native b bm => exact .inr ⟨b, bm, rfl, rfl⟩

end AllowedEvents

section Records

/-! ### What a part of a step records -/

variable {s u t : State}

/-- Since `s`, the state `t` has recorded nothing, or one event, which is allowed under the driver of `t`. -/
def RecordsAllowed (s t : State) : Prop :=
  t.trace = s.trace ∨ ∃ x : Entry, t.trace = s.trace ++ [x] ∧ AllowedEvent s.params t.driver x.event

theorem RecordsAllowed.refl (s : State) : RecordsAllowed s s := .inl rfl

theorem RecordsAllowed.allowedEvent (h : RecordsAllowed s t) {x : Entry} (hx : t.trace = s.trace ++ [x]) :
    AllowedEvent s.params t.driver x.event := by
  obtain hsame | ⟨y, hy, hallowed⟩ := h
  · simp [hsame] at hx
  · obtain rfl : y = x := by simpa [hy] using hx
    exact hallowed

theorem emit_recordsAllowed {e : Event} (h : AllowedEvent s.params s.driver e) : RecordsAllowed s (s.emit e) :=
  .inr ⟨_, rfl, h⟩

theorem afterIn1_recordsAllowed {port : Port} (h : ∀ v, AllowedEvent s.params s.driver (.in1 port v)) :
    RecordsAllowed s (s.afterIn1 port) := emit_recordsAllowed (h _)

theorem afterIn4_recordsAllowed {port : Port} (h : ∀ v, AllowedEvent s.params s.driver (.in4 port v)) :
    RecordsAllowed s (s.afterIn4 port) := emit_recordsAllowed (h _)

theorem openConfig_recordsAllowed (tagf : BitVec 16) (reg : BitVec 8) :
    RecordsAllowed s (openConfig (cfgAddrWord (tagOfField tagf) reg) s) :=
  emit_recordsAllowed (allowed_cfgAddress tagf reg)

theorem closeConfig_recordsAllowed : RecordsAllowed s (closeConfig s) := emit_recordsAllowed allowed_cfgClose

/-- The closing write is allowed under the driver its step installs, too (log 27). -/
theorem closeConfig_setDriver_recordsAllowed (d : Driver) : RecordsAllowed s ((closeConfig s).setDriver d) :=
  .inr ⟨_, rfl, allowed_cfgClose⟩

theorem raise_recordsAllowed {e : Status} {v : Word} (h : RecordsAllowed s u) :
    Post (RecordsAllowed s) (raise e v u) := post_raise (fun _ => h) fun _ => h

theorem configRead_recordsAllowed {i : Instr} {tagf : BitVec 16} {reg : BitVec 8} {at_ : CfgPhase → Pos}
    {done : Word → State → Out} {p : CfgPhase} (hdone : ∀ v, Post (RecordsAllowed s) (done v (closeConfig s))) :
    Post (RecordsAllowed s) (configRead i (tagOfField tagf) reg at_ done p s) :=
  post_configRead (fun _ => openConfig_recordsAllowed tagf reg)
    (fun _ _ => afterIn4_recordsAllowed allowed_cfgDataIn) fun v _ => hdone v

theorem statusWait_recordsAllowed {i : Instr} {b : Bases} {at_ : WaitPhase → Pos} {done : Byte → Bool}
    {exit : Byte → State → Out} {p : WaitPhase} (hb : s.driver.bases = some b)
    (hexit : ∀ st u, RecordsAllowed s u → Post (RecordsAllowed s) (exit st u)) :
    Post (RecordsAllowed s) (statusWait i b at_ done exit p s) :=
  have hread : RecordsAllowed s (s.afterIn1 (taskReg b 7)) := afterIn1_recordsAllowed (allowed_status hb)
  post_statusWait (fun st => hexit st _ hread) (fun _ => hread) (emit_recordsAllowed (allowed_diag hb))

theorem onRequest_recordsAllowed {i : Instr} {check : State → Option Refusal} {start : State → Out}
    {go : Pos → State → Out} (hstart : ∀ u, Post (RecordsAllowed u) (start u))
    (hgo : ∀ k, Running i k s → Post (RecordsAllowed s) (go k s)) :
    Post (RecordsAllowed s) (onRequest i check start go s) :=
  post_onRequest (fun _ _ => hstart s.nextId) hgo (.refl s)

/-- TAG_MAKE, TAG_SPLIT and BAR_DECODE record nothing. -/
theorem pureRequest_recordsAllowed {i : Instr} {check : State → Option Refusal} {v : Word} :
    Post (RecordsAllowed s) (onRequest i check (finish v none) noPosition s) :=
  onRequest_recordsAllowed (fun u => post_finish.2 (.refl u)) fun _ _ => post_fault _

end Records

section Requests

/-! ### What each request records -/

variable {s u : State} {k : Pos}

theorem cfgReadGo_recordsAllowed {tagf : BitVec 16} {reg : BitVec 8} {width : BitVec 3} :
    Post (RecordsAllowed s) (cfgReadGo tagf reg width k s) := by
  cases k with
  | cfgRead p => exact configRead_recordsAllowed fun _ => post_finish.2 closeConfig_recordsAllowed
  | _ => exact post_fault _

theorem cfgWriteGo_recordsAllowed {tagf : BitVec 16} {reg : BitVec 8} {val : Word} :
    Post (RecordsAllowed s) (cfgWriteGo tagf reg val k s) := by
  cases k with
  | cfgWrite p =>
    cases p with
    | address => exact post_goto.2 (openConfig_recordsAllowed tagf reg)
    | data => exact post_goto.2 (emit_recordsAllowed (allowed_cfgDataOut val))
    | close => exact post_finish.2 closeConfig_recordsAllowed
  | _ => exact post_fault _

theorem endProbe_recordsAllowed (h : RecordsAllowed s u) (present : Bool) :
    Post (RecordsAllowed s) (endProbe present u) := by
  cases present with
  | true => exact post_finish.2 h
  | false => exact raise_recordsAllowed h

theorem afterPoll_recordsAllowed {i : Instr} {n : Nat} {r : Byte} (h : RecordsAllowed s u) :
    Post (RecordsAllowed s) (afterPoll i n r u) := by
  unfold afterPoll
  split
  · exact endProbe_recordsAllowed h _
  · split
    · exact post_goto.2 h
    · exact endProbe_recordsAllowed h _

theorem probeGo_recordsAllowed {i : Instr} : Post (RecordsAllowed s) (probeGo i k s) := by
  refine post_withBases fun b hb => ?_
  cases k with
  | probeWait p => exact statusWait_recordsAllowed hb fun _ _ hu => post_goto.2 hu
  | probePoll n => exact afterPoll_recordsAllowed (afterIn1_recordsAllowed (allowed_poll hb))
  | _ => exact post_fault _

theorem attachGo_recordsAllowed {vendor device tagf : BitVec 16} :
    Post (RecordsAllowed s) (attachGo vendor device tagf k s) := by
  unfold attachGo
  split
  · next n p =>
    refine configRead_recordsAllowed fun v => ?_
    cases n with
    | bar4 q b0 b1 => exact post_goto.2 (closeConfig_setDriver_recordsAllowed _)
    | _ => exact post_goto.2 closeConfig_recordsAllowed
  · exact probeGo_recordsAllowed

theorem attachStart_recordsAllowed {vendor device tagf : BitVec 16} :
    Post (RecordsAllowed s) (attachStart vendor device tagf s) := by
  unfold attachStart
  split
  · exact raise_recordsAllowed (.refl s)
  · next handler _ =>
    split
    · exact raise_recordsAllowed (.refl s)
    · cases handler with
      | legacy => exact attachGo_recordsAllowed (s := (s.setDriver legacyDriver).setSpin 0) (k := .probeWait .read)
      | native => exact attachGo_recordsAllowed (k := .attachCfg .irq .address)

theorem issueCommand_recordsAllowed {i : Instr} {writing : Bool} :
    Post (RecordsAllowed s) (issueCommand i writing s) := by
  refine post_withBases fun b hb => ?_
  have hcommand := emit_recordsAllowed (s := s) (allowed_command hb writing)
  cases writing with
  | true => exact post_goto.2 hcommand
  | false => exact post_finish.2 hcommand

theorem afterPush_recordsAllowed {i : Instr} {n : Nat} (h : RecordsAllowed s u) :
    Post (RecordsAllowed s) (afterPush i n u) := by
  unfold afterPush
  split
  · exact post_goto.2 h
  · exact post_finish.2 h

theorem startGo_recordsAllowed {unit : BitVec 1} {writing : Bool} {lba : BitVec 28} {payload : List Byte} :
    Post (RecordsAllowed s) (startGo unit writing lba payload k s) := by
  refine post_withBases fun b hb => ?_
  cases k with
  | startWait p => exact statusWait_recordsAllowed hb fun _ _ hu => post_goto.2 hu
  | startReg r => exact post_goto.2 (emit_recordsAllowed (allowed_startReg hb unit lba r))
  | startCommand => exact issueCommand_recordsAllowed
  | startDrq => exact post_goto.2 (afterIn1_recordsAllowed (allowed_status hb))
  | startPush n => exact afterPush_recordsAllowed (emit_recordsAllowed (allowed_dataOut hb _))
  | _ => exact post_fault _

theorem afterCheckedWait_recordsAllowed {i : Instr} {st : Byte} (h : RecordsAllowed s u) :
    Post (RecordsAllowed s) (afterCheckedWait i st u) := by
  unfold afterCheckedWait
  split
  · exact post_goto.2 h
  · exact raise_recordsAllowed (u := u.setXfer .idle) h

theorem afterPull_recordsAllowed {i : Instr} {got : List Word} (h : RecordsAllowed s u) :
    Post (RecordsAllowed s) (afterPull i got u) := by
  unfold afterPull
  split
  · exact post_goto.2 h
  · exact post_finish.2 h

theorem completeGo_recordsAllowed {writing : Bool} : Post (RecordsAllowed s) (completeGo writing k s) := by
  refine post_withBases fun b hb => ?_
  cases k with
  | completeWait p => exact statusWait_recordsAllowed hb fun _ _ hu => afterCheckedWait_recordsAllowed hu
  | completePull got => exact afterPull_recordsAllowed (afterIn4_recordsAllowed (allowed_dataIn hb))
  | _ => exact post_fault _

theorem hasIntrGo_recordsAllowed : Post (RecordsAllowed s) (hasIntrGo k s) := by
  refine post_withNative fun b bm hd => ?_
  cases k with
  | hasIntrRead => exact post_finish.2 (afterIn1_recordsAllowed (allowed_bmRead hd))
  | _ => exact post_fault _

/-- The byte CLEAR_INTR writes back has bit 1 clear where its position kept it so (R173). -/
theorem clearIntrGo_recordsAllowed (hkept : ∀ byte, k = .clearBmWrite byte → bmError byte = false) :
    Post (RecordsAllowed s) (clearIntrGo k s) := by
  cases k with
  | clearStatus1 =>
    exact post_withBases fun b hb => post_goto.2 (afterIn1_recordsAllowed (allowed_status hb))
  | clearStatus2 =>
    exact post_withBases fun b hb => post_goto.2 (afterIn1_recordsAllowed (allowed_status hb))
  | clearBmRead =>
    refine post_withNative fun b bm hd => ?_
    have hread : RecordsAllowed s (s.afterIn1 (bmStatusPort bm)) := afterIn1_recordsAllowed (allowed_bmRead hd)
    dsimp only
    split
    · exact raise_recordsAllowed hread
    · exact post_goto.2 hread
  | clearBmWrite byte =>
    exact post_withNative fun b bm hd => post_goto.2 (emit_recordsAllowed (allowed_bmWrite hd (hkept byte rfl)))
  | clearEoi => exact post_withBases fun b hb => post_finish.2 (emit_recordsAllowed (allowed_eoi hb))
  | _ => exact post_fault _

/-- The invariant keeps a busmaster byte with bit 1 set from being written back (R173). -/
theorem execClearIntr_recordsAllowed (h : BlockInv s) : Post (RecordsAllowed s) (execClearIntr s) := by
  refine onRequest_recordsAllowed (fun _ => clearIntrGo_recordsAllowed nofun) fun k hk =>
    clearIntrGo_recordsAllowed ?_
  rintro byte rfl
  obtain ⟨-, hbyte⟩ := (standsAt_of_blockInv h hk).pos_fits
  exact hbyte

theorem deviceCommand_recordsAllowed {writing : Bool} : Post (RecordsAllowed s) (deviceCommand writing s) :=
  post_deviceCommand (fun _ _ _ _ => issueCommand_recordsAllowed) (.refl s)

/-- Every instruction records nothing, or one event that is allowed. -/
theorem exec_recordsAllowed {i : Instr} (h : BlockInv s) : Post (RecordsAllowed s) (exec i s) := by
  unfold exec
  cases i with
  | cfgRead tagf reg width =>
    exact onRequest_recordsAllowed (fun _ => cfgReadGo_recordsAllowed) fun _ _ => cfgReadGo_recordsAllowed
  | cfgWrite tagf reg val =>
    refine onRequest_recordsAllowed (fun u => ?_) fun _ _ => cfgWriteGo_recordsAllowed
    split
    · exact raise_recordsAllowed (.refl u)
    · exact cfgWriteGo_recordsAllowed
  | tagMake bus dev fn => exact pureRequest_recordsAllowed
  | tagSplit tag => exact pureRequest_recordsAllowed
  | barDecode raw => exact pureRequest_recordsAllowed
  | attach vendor device tagf =>
    exact onRequest_recordsAllowed (fun _ => attachStart_recordsAllowed) fun _ _ => attachGo_recordsAllowed
  | start unit writing lba payload =>
    exact onRequest_recordsAllowed (fun u => startGo_recordsAllowed (s := u.setSpin 0)) fun _ _ =>
      startGo_recordsAllowed
  | complete writing =>
    refine onRequest_recordsAllowed (fun u => ?_) fun _ _ => completeGo_recordsAllowed
    split
    · exact post_finish.2 (.refl u)
    · exact completeGo_recordsAllowed (s := u.setSpin 0)
  | hasIntr =>
    refine onRequest_recordsAllowed (fun u => ?_) fun _ _ => hasIntrGo_recordsAllowed
    split
    · exact post_finish.2 (.refl u)
    · exact hasIntrGo_recordsAllowed
  | clearIntr => exact execClearIntr_recordsAllowed h
  | ataCmdRead => exact deviceCommand_recordsAllowed
  | ataCmdWrite => exact deviceCommand_recordsAllowed

end Requests

/-- Settles O50: a step runs one instruction, which records allowed events alone; the invariant is needed for the byte
CLEAR_INTR writes back. -/
theorem stepsKeepPortDiscipline : Obligations.StepsKeepPortDiscipline := by
  intro s t x h hs hx
  have hrecords : RecordsAllowed s t := by
    obtain rfl | ⟨i, rs, -, hi, he⟩ := step_cases_of_blockInv h hs
    · exact .refl t
    · exact post_iff.1 (exec_recordsAllowed (s := s.setRequests rs) hi) t he
  exact hrecords.allowedEvent hx

end Sys2Proof.Machine
end

section
/-! ## The last data read of COMPLETE (O33) -/

namespace Sys2Proof.Machine

/-- The bytes of sector words as numbers, lowest first in each word (R57). -/
theorem sectorBytesOf_eq (ws : List Word) :
    sectorBytesOf ws = ws.flatMap fun w =>
      [BitVec.ofNat 8 w.toNat, BitVec.ofNat 8 (w.toNat / 2 ^ 8), BitVec.ofNat 8 (w.toNat / 2 ^ 16),
        BitVec.ofNat 8 (w.toNat / 2 ^ 24)] := by
  refine congrArg ws.flatMap (funext fun w => ?_)
  simp only [wordBytes, BitVec.extractLsb', Nat.shiftRight_eq_div_pow, pow_zero, Nat.div_one]

/-- A read of 4 bytes that the oracle's list answers records the head of the list (R55). -/
theorem afterIn4_of_answers {s : State} {a : Word} {rest : List Word} (h : s.answers = a :: rest) (port : Port) :
    s.afterIn4 port = { s with trace := s.trace ++ [⟨s.reqId, .in4 port a⟩], answers := rest } := by
  simp [State.afterIn4, State.emit, State.dropAnswer, State.in4, answer_cons h, h]

/-- With 128 words read a COMPLETE returns their bytes (R147). -/
theorem afterPull_of_length_eq {i : Instr} {got : List Word} (h : got.length = 128) (s : State) :
    afterPull i got s = finish 0 (some (sectorBytesOf got)) (s.setXfer .idle) := by
  simp [afterPull, Config.sectorWords, h]

/-- A data read of a running COMPLETE (R147). -/
theorem execComplete_pull {writing : Bool} {got rest : List Word} {a : Word} {b : Bases} {s : State}
    (hr : Running (.complete writing) (.completePull got) s) (hb : s.driver.bases = some b)
    (ha : s.answers = a :: rest) :
    execComplete writing s = afterPull (.complete writing) (got ++ [a])
      { s with trace := s.trace ++ [⟨s.reqId, .in4 b.cmd a⟩], answers := rest } := by
  have hread : s.in4 b.cmd = a := answer_cons ha _ _
  rw [execComplete, onRequest_running hr, completeGo, withBases_eq hb]
  simp only [taskReg_zero, hread, afterIn4_of_answers ha]

/-- Settles O33: the 128th word ends the data reads. -/
theorem completeReadReturns : Obligations.CompleteReadReturns := by
  intro s b got a rest hr hb hlen ha
  have hfull : (got ++ [a]).length = 128 := by simp [hlen]
  have hexec : exec (.complete false) s = _ := execComplete_pull hr hb ha
  rw [hexec, afterPull_of_length_eq hfull, sectorBytesOf_eq]
  rfl

end Sys2Proof.Machine
end

section
/-! ## Requests that end in the step that accepts them -/

namespace Sys2Proof.Machine

/-- A state after a request was accepted and answered `r` without an event. -/
def answered (s : State) (r : Result) : State := { s with reqId := s.reqId + 1, result := some r }

section Answered

variable {s : State}

theorem ready_answered (h : Ready s) (r : Result) : Ready (answered s r) := h

/-- The end of a request finds the sequencer of a ready block idle, so it writes the id and the result alone. -/
theorem answered_of_ready (h : Ready s) (r : Result) : (s.nextId.setResult r).setSeq .idle = answered s r := by
  rw [← h.2]
  rfl

theorem finish_of_ready (h : Ready s) (v : Word) (data : Option (List Byte)) :
    finish v data s.nextId = .next (answered s ⟨.ok, v, data⟩) :=
  congrArg _ (answered_of_ready h _)

end Answered

end Sys2Proof.Machine
end

section
/-! ## The PciTag requests (O13, O14, O15)

The fields of a PciTag do not overlap, so the disjunctions of R103 and R104 are sums. -/

namespace Sys2Proof.Machine

section PciTag

variable {s : State}

theorem exec_tagMake_of_ready (h : Ready s) (bus : BitVec 8) (dev : BitVec 5) (fn : BitVec 3) :
    exec (.tagMake bus dev fn) s = .next (answered s ⟨.ok, makeTag bus dev fn, none⟩) := by
  rw [exec, execTagMake, onRequest_ready h rfl, finish_of_ready h]

theorem exec_tagSplit_of_ready (h : Ready s) {tag : Word} (ht : tagOk tag = true) :
    exec (.tagSplit tag) s = .next (answered s ⟨.ok, splitTag tag, none⟩) := by
  rw [exec, execTagSplit, onRequest_ready h (refuseUnless_eq_none.2 ⟨ht, rfl⟩), finish_of_ready h]

theorem exec_tagSplit_refused (h : Ready s) {tag : Word} (ht : tagOk tag = false) :
    exec (.tagSplit tag) s = .refused .badTag := by
  rw [exec, execTagSplit, onRequest_refused h (by rw [ht]; rfl)]

/-- Words that do not overlap, one with its bits from `n` up and the other below, have their sum as disjunction. -/
theorem toNat_or_eq_add {a b : Word} {n : Nat} (ha : 2 ^ n ∣ a.toNat) (hb : b.toNat < 2 ^ n) :
    (a ||| b).toNat = a.toNat + b.toNat := by
  obtain ⟨c, hc⟩ := ha
  rw [BitVec.toNat_or, hc, Nat.two_pow_add_eq_or_of_lt hb]

theorem makeTag_toNat (bus : BitVec 8) (dev : BitVec 5) (fn : BitVec 3) :
    (makeTag bus dev fn).toNat = bus.toNat * 2 ^ 16 + dev.toNat * 2 ^ 11 + fn.toNat * 2 ^ 8 := by
  have hbus : (bus.setWidth 32 <<< 16).toNat = bus.toNat * 2 ^ 16 := by simp [Nat.shiftLeft_eq]; omega
  have hdev : (dev.setWidth 32 <<< 11).toNat = dev.toNat * 2 ^ 11 := by simp [Nat.shiftLeft_eq]; omega
  have hfn : (fn.setWidth 32 <<< 8).toNat = fn.toNat * 2 ^ 8 := by simp [Nat.shiftLeft_eq]; omega
  have hhigh : (bus.setWidth 32 <<< 16 ||| dev.setWidth 32 <<< 11).toNat = bus.toNat * 2 ^ 16 + dev.toNat * 2 ^ 11 := by
    rw [toNat_or_eq_add (n := 16) (by omega) (by omega), hbus, hdev]
  rw [makeTag, toNat_or_eq_add (n := 11) (by omega) (by omega), hhigh, hfn]

theorem splitTag_toNat (tag : Word) :
    (splitTag tag).toNat =
      tag.toNat / 2 ^ 16 % 2 ^ 8 + tag.toNat / 2 ^ 11 % 2 ^ 5 * 2 ^ 8 + tag.toNat / 2 ^ 8 % 2 ^ 3 * 2 ^ 16 := by
  have hbus : ((tag.extractLsb' 16 8).setWidth 32).toNat = tag.toNat / 2 ^ 16 % 2 ^ 8 := by
    simp [Nat.shiftRight_eq_div_pow]; omega
  have hdev : ((tag.extractLsb' 11 5).setWidth 32 <<< 8).toNat = tag.toNat / 2 ^ 11 % 2 ^ 5 * 2 ^ 8 := by
    simp [Nat.shiftRight_eq_div_pow, Nat.shiftLeft_eq]; omega
  have hfn : ((tag.extractLsb' 8 3).setWidth 32 <<< 16).toNat = tag.toNat / 2 ^ 8 % 2 ^ 3 * 2 ^ 16 := by
    simp [Nat.shiftRight_eq_div_pow, Nat.shiftLeft_eq]; omega
  have hlow : ((tag.extractLsb' 11 5).setWidth 32 <<< 8 ||| (tag.extractLsb' 16 8).setWidth 32).toNat =
      tag.toNat / 2 ^ 11 % 2 ^ 5 * 2 ^ 8 + tag.toNat / 2 ^ 16 % 2 ^ 8 := by
    rw [toNat_or_eq_add (n := 8) (by omega) (by omega), hdev, hbus]
  rw [splitTag, BitVec.or_comm, BitVec.or_comm (BitVec.setWidth 32 _), toNat_or_eq_add (n := 16) (by omega) (by omega),
    hlow, hfn]
  omega

/-- A value with no bit outside 23..8 is a PciTag (R83, R104). -/
theorem tagOk_iff {tag : Word} : tagOk tag = true ↔ tag &&& 0xFF0000FF = 0 := beq_iff_eq

theorem tagOk_makeTag (bus : BitVec 8) (dev : BitVec 5) (fn : BitVec 3) : tagOk (makeTag bus dev fn) = true := by
  have hbus : (0xFF0000FF : Word) &&& bus.setWidth 32 <<< 16 = 0 := by revert bus; decide
  have hdev : (0xFF0000FF : Word) &&& dev.setWidth 32 <<< 11 = 0 := by revert dev; decide
  have hfn : (0xFF0000FF : Word) &&& fn.setWidth 32 <<< 8 = 0 := by revert fn; decide
  rw [tagOk_iff, BitVec.and_comm, makeTag, BitVec.and_or_distrib_left, BitVec.and_or_distrib_left, hbus, hdev, hfn]
  rfl

theorem splitTag_makeTag (bus : BitVec 8) (dev : BitVec 5) (fn : BitVec 3) :
    splitTag (makeTag bus dev fn) = BitVec.ofNat 32 (bus.toNat + dev.toNat * 2 ^ 8 + fn.toNat * 2 ^ 16) := by
  apply BitVec.eq_of_toNat_eq
  have hsum := makeTag_toNat bus dev fn
  have hbus : (makeTag bus dev fn).toNat / 2 ^ 16 % 2 ^ 8 = bus.toNat := by omega
  have hdev : (makeTag bus dev fn).toNat / 2 ^ 11 % 2 ^ 5 = dev.toNat := by omega
  have hfn : (makeTag bus dev fn).toNat / 2 ^ 8 % 2 ^ 3 = fn.toNat := by omega
  rw [splitTag_toNat, hbus, hdev, hfn, BitVec.toNat_ofNat]
  omega

end PciTag

/-- Settles O13: the request ends in its accepting step, and its value is the sum of the fields. -/
theorem tagMakeReturnsTag : Obligations.TagMakeReturnsTag := fun _ bus dev fn h =>
  ⟨_, _, makeTag_toNat bus dev fn, exec_tagMake_of_ready h bus dev fn, rfl⟩

/-- Settles O14: the stray bits decide whether the tag is refused, and the value is the sum of the bytes. -/
theorem tagSplitReturnsFields : Obligations.TagSplitReturnsFields := by
  intro s tag h
  split
  · next ht => exact ⟨_, _, splitTag_toNat tag, exec_tagSplit_of_ready h (tagOk_iff.2 ht), rfl⟩
  · next ht => exact exec_tagSplit_refused h (Bool.eq_false_iff.2 (mt tagOk_iff.1 ht))

/-- Settles O15: a made tag has no stray bit, and its fields are the operands. -/
theorem tagSplitInvertsTagMake : Obligations.TagSplitInvertsTagMake := by
  intro s bus dev fn h
  refine ⟨_, _, exec_tagMake_of_ready h bus dev fn, rfl, _,
    exec_tagSplit_of_ready (ready_answered h _) (tagOk_makeTag bus dev fn), ?_⟩
  rw [answered, splitTag_makeTag]

end Sys2Proof.Machine
end

section
/-! ## The configuration requests (O17, O19)

One rule per event; the runs of R101 and R102 chain three of them. -/

namespace Sys2Proof.Machine

section ConfigEvents

variable {s : State} {tagf : BitVec 16} {reg : BitVec 8} {width : BitVec 3} {val v : Word}

theorem exec_cfgRead_address (h : Ready s) (hw : widthOk width = true) :
    exec (.cfgRead tagf reg width) s =
      goto (.cfgRead tagf reg width) (.cfgRead .data) (openConfig (addressWord tagf reg.toNat) s.nextId) := by
  rw [exec, execCfgRead, onRequest_ready h (refuseUnless_eq_none.2 ⟨hw, rfl⟩), ← cfgAddrWord_eq_addressWord]
  rfl

theorem exec_cfgRead_data (h : Running (.cfgRead tagf reg width) (.cfgRead .data) s) :
    exec (.cfgRead tagf reg width) s =
      goto (.cfgRead tagf reg width) (.cfgRead (.close (s.in4 0xCFC))) (s.afterIn4 0xCFC) := by
  rw [exec, execCfgRead, onRequest_running h]
  rfl

theorem exec_cfgRead_close (h : Running (.cfgRead tagf reg width) (.cfgRead (.close v)) s) :
    exec (.cfgRead tagf reg width) s = finish (cfgExtract v reg width.toNat) none (closeConfig s) := by
  rw [exec, execCfgRead, onRequest_running h]
  rfl

theorem exec_cfgWrite_misaligned (h : Ready s) (hr : reg.toNat % 4 ≠ 0) :
    exec (.cfgWrite tagf reg val) s = raise .alignmentError 0 s.nextId := by
  rw [exec, execCfgWrite, onRequest_ready h rfl]
  exact if_pos hr

theorem exec_cfgWrite_address (h : Ready s) (hr : reg.toNat % 4 = 0) :
    exec (.cfgWrite tagf reg val) s =
      goto (.cfgWrite tagf reg val) (.cfgWrite .data) (openConfig (addressWord tagf reg.toNat) s.nextId) := by
  rw [exec, execCfgWrite, onRequest_ready h rfl, ← cfgAddrWord_eq_addressWord]
  exact if_neg (not_not.2 hr)

theorem exec_cfgWrite_data (h : Running (.cfgWrite tagf reg val) (.cfgWrite .data) s) :
    exec (.cfgWrite tagf reg val) s =
      goto (.cfgWrite tagf reg val) (.cfgWrite .close) (s.emit (.out4 0xCFC val)) := by
  rw [exec, execCfgWrite, onRequest_running h]
  rfl

theorem exec_cfgWrite_close (h : Running (.cfgWrite tagf reg val) (.cfgWrite .close) s) :
    exec (.cfgWrite tagf reg val) s = finish 0 none (closeConfig s) := by
  rw [exec, execCfgWrite, onRequest_running h]
  rfl

/-- The value of a configuration read is `n` bytes of the word, from byte `reg mod 4` up (R101, R56). -/
theorem cfgExtract_toNat {n : Nat} (hn : n ≤ 4) :
    (cfgExtract v reg n).toNat = v.toNat / 256 ^ (reg.toNat % 4) % 256 ^ n := by
  have hmask : 2 ^ (8 * n) - 1 < 2 ^ 32 := by
    have := Nat.pow_le_pow_right (n := 2) (by omega) (show 8 * n ≤ 32 by omega)
    omega
  rw [cfgExtract, byteMask, BitVec.toNat_and, BitVec.toNat_ushiftRight, BitVec.toNat_ofNat, Nat.mod_eq_of_lt hmask,
    Nat.and_two_pow_sub_one_eq_mod, Nat.shiftRight_eq_div_pow, pow_mul, pow_mul, regOffset]
  rfl

theorem widthOk_iff : widthOk width = true ↔ width = 1 ∨ width = 2 ∨ width = 4 := by
  simp [widthOk, or_assoc]

theorem le_four_of_widthOk (hw : widthOk width = true) : width.toNat ≤ 4 := by
  obtain rfl | rfl | rfl := widthOk_iff.1 hw <;> decide

end ConfigEvents

section OpenAccess

variable {s : State} {i : Instr} {k k' : Pos} {a v : Word} {es : List Event} {as : List Word}

/-- A state inside a configuration access that `s` accepted: at position `k` of request `i`, after the events `es`, with
the address `a` open and the oracle's answers `as` left. -/
def accessing (s : State) (i : Instr) (k : Pos) (a : Word) (es : List Event) (as : List Word) : State :=
  { afterEvents s es as with cfgAddr := some a, seq := .run i k }

theorem running_accessing (h : Ready s) : Running i k (accessing s i k a es as) := ⟨h.1, rfl⟩

/-- An event of the running request stands in the trace after those before it, under the same id (R34, R85). -/
theorem trace_append_event (tr : List Entry) (id : Nat) (e : Event) :
    tr ++ tagged id es ++ [⟨id, e⟩] = tr ++ tagged id (es ++ [e]) := by
  simp [tagged]

theorem goto_openConfig :
    goto i k (openConfig a s.nextId) = .next (accessing s i k a [.out4 0xCF8 a] s.answers) := rfl

theorem goto_emit_accessing (e : Event) :
    goto i k' ((accessing s i k a es as).emit e) = .next (accessing s i k' a (es ++ [e]) as) := by
  rw [accessing, accessing, afterEvents, afterEvents, ← trace_append_event]
  rfl

theorem goto_afterIn4_accessing (p : Port) :
    goto i k' ((accessing s i k a es as).afterIn4 p) =
      .next (accessing s i k' a (es ++ [Event.in4 p ((accessing s i k a es as).in4 p)]) as.tail) := by
  rw [accessing, accessing, afterEvents, afterEvents, ← trace_append_event]
  rfl

theorem in4_accessing {rest : List Word} (h : as = v :: rest) (p : Port) : (accessing s i k a es as).in4 p = v :=
  answer_cons h p 4

/-- The closing write ends the access and its request (R101, R102, R241). -/
theorem finish_closeConfig_accessing (h : Ready s) :
    finish v none (closeConfig (accessing s i k a es as)) =
      .next
        { afterEvents s (es ++ [Event.out4 0xCF8 0]) as with cfgAddr := some 0, result := some ⟨.ok, v, none⟩ } := by
  rw [accessing, finish, afterEvents, afterEvents, ← trace_append_event, ← h.2]
  rfl

end OpenAccess

/-- Settles O17: one rule for each of the three events, and the value as a quotient and remainder. -/
theorem configReadCompletes : Obligations.ConfigReadCompletes := by
  intro s tagf reg width h hwidth
  have hw := widthOk_iff.2 hwidth
  exact ⟨_, _, _, _, (exec_cfgRead_address h hw).trans goto_openConfig,
    (exec_cfgRead_data (running_accessing h)).trans (goto_afterIn4_accessing _), rfl,
    fun a rest ha => in4_accessing ha _, cfgExtract_toNat (le_four_of_widthOk hw),
    (exec_cfgRead_close (running_accessing h)).trans (finish_closeConfig_accessing h)⟩

/-- Settles O19: one rule for each of the three events, or the alignment error. -/
theorem configWriteCompletes : Obligations.ConfigWriteCompletes := by
  intro s tagf reg val h
  split
  · next hr =>
    exact ⟨_, _, (exec_cfgWrite_address h hr).trans goto_openConfig,
      (exec_cfgWrite_data (running_accessing h)).trans (goto_emit_accessing _),
      (exec_cfgWrite_close (running_accessing h)).trans (finish_closeConfig_accessing h)⟩
  · next hr =>
    exact ⟨_, (exec_cfgWrite_misaligned h hr).trans (raise_of_not_fatal rfl _ _), answered_of_ready h _⟩

end Sys2Proof.Machine
end

section
/-! ## The frames of the configuration requests (O54)

`KeepsDevice` gives the parameters, the driver, `present` and the host's requests; the session, the halt and the wait
count are left to show, and for CFG_WRITE the oracle's answers. -/

namespace Sys2Proof.Machine

section ConfigFrames

variable {k : Pos} {s : State} {tagf : BitVec 16} {reg : BitVec 8} {width : BitVec 3} {val : Word}

/-- The session, `halted`, `fatal` and `spin` are as they were. -/
def KeepsSession (s t : State) : Prop :=
  t.xfer = s.xfer ∧ t.halted = s.halted ∧ t.fatal = s.fatal ∧ t.spin = s.spin

theorem KeepsSession.refl (s : State) : KeepsSession s s := ⟨rfl, rfl, rfl, rfl⟩

/-- The session and the oracle's answers are as they were. -/
def KeepsAnswers (s t : State) : Prop := KeepsSession s t ∧ t.answers = s.answers

theorem KeepsAnswers.refl (s : State) : KeepsAnswers s s := ⟨.refl s, rfl⟩

theorem cfgReadGo_keepsSession : Post (KeepsSession s) (cfgReadGo tagf reg width k s) := by
  cases k with
  | cfgRead p => exact post_configRead (fun _ => .refl s) (fun _ _ => .refl s) fun _ _ => post_finish.2 (.refl s)
  | _ => exact post_fault _

theorem execCfgRead_keepsSession : Post (KeepsSession s) (execCfgRead tagf reg width s) :=
  post_onRequest (fun _ _ => cfgReadGo_keepsSession (s := s.nextId)) (fun _ _ => cfgReadGo_keepsSession) (.refl s)

/-- No event of CFG_WRITE is a read (R102). -/
theorem cfgWriteGo_keepsAnswers : Post (KeepsAnswers s) (cfgWriteGo tagf reg val k s) := by
  cases k with
  | cfgWrite p =>
    cases p with
    | address => exact post_goto.2 (.refl s)
    | data => exact post_goto.2 (.refl s)
    | close => exact post_finish.2 (.refl s)
  | _ => exact post_fault _

/-- An error that is not fatal writes the result latch and the sequencer alone (R206). -/
theorem raise_keepsAnswers {e : Status} {v : Word} (he : e.isFatal = false) : Post (KeepsAnswers s) (raise e v s) := by
  rw [raise_of_not_fatal he]
  exact KeepsAnswers.refl s

theorem execCfgWrite_keepsAnswers : Post (KeepsAnswers s) (execCfgWrite tagf reg val s) := by
  refine post_onRequest (fun _ _ => ?_) (fun _ _ => cfgWriteGo_keepsAnswers) (.refl s)
  split
  · exact raise_keepsAnswers (s := s.nextId) rfl
  · exact cfgWriteGo_keepsAnswers (s := s.nextId)

end ConfigFrames

/-- Settles O54: only ATTACH writes the device's fields, no configuration event writes the session's, and CFG_WRITE reads
no port. -/
theorem configRequestsFrame : Obligations.ConfigRequestsFrame := by
  intro s t i hi he
  have hattach : ∀ vendor device tagf, i ≠ .attach vendor device tagf := by rintro _ _ _ rfl; simp at hi
  obtain ⟨hparams, hdriver, hpresent, hrequests⟩ := post_iff.1 (exec_keepsDevice hattach) t he
  obtain ⟨tagf, reg, width, rfl⟩ | ⟨tagf, reg, val, rfl⟩ := hi
  · obtain ⟨hxfer, hhalted, hfatal, hspin⟩ := post_iff.1 execCfgRead_keepsSession t he
    exact ⟨hparams, hdriver, hpresent, hxfer, hhalted, hfatal, hspin, hrequests, by simp⟩
  · obtain ⟨⟨hxfer, hhalted, hfatal, hspin⟩, hanswers⟩ := post_iff.1 execCfgWrite_keepsAnswers t he
    exact ⟨hparams, hdriver, hpresent, hxfer, hhalted, hfatal, hspin, hrequests, fun _ => hanswers⟩

end Sys2Proof.Machine
end

section
/-! ## The frame of the requests without an event (O55) -/

namespace Sys2Proof.Machine

/-- Nothing but the request id and the result latch may differ. -/
def WritesResult (s t : State) : Prop := t = { s with reqId := t.reqId, result := t.result }

theorem answered_writesResult (s : State) (r : Result) : WritesResult s (answered s r) := rfl

/-- TAG_MAKE, TAG_SPLIT and BAR_DECODE end in the step that accepts them, or are held. -/
theorem pureRequest_writesResult {i : Instr} {check : State → Option Refusal} {v : Word} {s : State} :
    Post (WritesResult s) (onRequest i check (finish v none) noPosition s) := by
  refine post_onRequest (fun h _ => ?_) (fun _ _ => post_fault _) rfl
  rw [finish_of_ready h]
  exact answered_writesResult s _

/-- Settles O55: each of the three is a request without an event. -/
theorem pureRequestsFrame : Obligations.PureRequestsFrame := by
  intro s t i hi he
  suffices h : Post (WritesResult s) (exec i s) from post_iff.1 h t he
  unfold exec
  obtain ⟨bus, dev, fn, rfl⟩ | ⟨tag, rfl⟩ | ⟨raw, rfl⟩ := hi
  · exact pureRequest_writesResult
  · exact pureRequest_writesResult
  · exact pureRequest_writesResult

end Sys2Proof.Machine
end

section
/-! ## BAR_DECODE (O16) -/

namespace Sys2Proof.Machine

section BarDecode

variable {s : State}

/-- Clearing bits 2..0 of the low 16 bits rounds them down to a multiple of 8 (R120). -/
theorem barDecode_toNat (raw : Word) : (barDecode raw).toNat = raw.toNat % 2 ^ 16 / 8 * 8 := by
  have hshift : barDecode raw = (raw.setWidth 16 >>> 3) <<< 3 := by
    refine BitVec.eq_of_getLsbD_eq fun n hn => ?_
    interval_cases n <;> simp [barDecode]
  rw [hshift, BitVec.toNat_shiftLeft, BitVec.toNat_ushiftRight, BitVec.toNat_setWidth, Nat.shiftLeft_eq,
    Nat.shiftRight_eq_div_pow]
  omega

theorem barDecode_eq_barBase (raw : Word) : barDecode raw = barBase raw := by
  rw [barBase, ← barDecode_toNat, BitVec.ofNat_toNat, BitVec.setWidth_eq]

theorem exec_barDecode_of_ready (h : Ready s) (raw : Word) :
    exec (.barDecode raw) s = .next (answered s ⟨.ok, (barDecode raw).setWidth 32, none⟩) := by
  rw [exec, execBarDecode, onRequest_ready h rfl, finish_of_ready h]

end BarDecode

/-- Settles O16: the request ends in its accepting step, and its value is the BAR rounded down. -/
theorem barDecodeReturnsBase : Obligations.BarDecodeReturnsBase := by
  intro s raw h
  have hvalue : ((barDecode raw).setWidth 32).toNat = raw.toNat % 2 ^ 16 / 8 * 8 := by
    rw [BitVec.toNat_setWidth_of_le (by decide), barDecode_toNat]
  exact ⟨_, _, hvalue, exec_barDecode_of_ready h raw, rfl⟩

end Sys2Proof.Machine
end

section
/-! ## A second ATTACH (O21) -/

namespace Sys2Proof.Machine

section SecondAttach

variable {s : State} {vendor device tagf : BitVec 16}

theorem exec_attach_of_ready (h : Ready s) :
    exec (.attach vendor device tagf) s = attachStart vendor device tagf s.nextId := by
  rw [exec, execAttach, onRequest_ready h rfl]

/-- A pair in the table has a handler (R122). -/
theorem lookupHandler_ne_none {table : List AttachEntry} {e : AttachEntry} (he : e ∈ table) :
    lookupHandler table e.vendor e.device ≠ none := by
  intro hnone
  rw [lookupHandler, Option.map_eq_none_iff, List.find?_eq_none] at hnone
  exact hnone e he (by simp)

end SecondAttach

/-- Settles O21: the duplicate check raises a fatal error before any event. -/
theorem secondAttachIsFatal : Obligations.SecondAttachIsFatal := by
  rintro s vendor device tagf e h he rfl rfl hd
  have hraise : attachStart e.vendor e.device tagf s.nextId = raise .duplicateDevice 0 s.nextId :=
    attachStart_of_installed hd (lookupHandler_ne_none he)
  have hend : (s.nextId.setResult ⟨.duplicateDevice, 0, none⟩).setSeq .idle =
      answered s ⟨.duplicateDevice, 0, none⟩ := answered_of_ready h _
  rw [exec_attach_of_ready h, hraise, raise_of_fatal rfl, hend]
  exact ⟨_, rfl, rfl⟩

end Sys2Proof.Machine
end

section
/-! ## Runs of one request, event by event

`recorded s es as` is `s` after the events `es` of its running request. A loop of the block is a run from its first
event to the step that leaves it. -/

namespace Sys2Proof.Machine

section Runs

variable {i : Instr} {k : Pos} {s t : State}

/-- The state after the running request recorded `es`, with the oracle's answers `as` left. -/
def recorded (s : State) (es : List Event) (as : List Word) : State :=
  { s with trace := s.trace ++ tagged s.reqId es, answers := as }

theorem recorded_recorded (s : State) (es es' : List Event) (as as' : List Word) :
    recorded (recorded s es as) es' as' = recorded s (es ++ es') as' := by
  simp [recorded, tagged]

/-- The same with the request at position `k`. -/
def recordedAt (s : State) (es : List Event) (as : List Word) (i : Instr) (k : Pos) : State :=
  { recorded s es as with seq := .run i k }

theorem recordedAt_recordedAt (s : State) (es es' : List Event) (as as' : List Word) (i j : Instr) (k k' : Pos) :
    recordedAt (recordedAt s es as i k) es' as' j k' = recordedAt s (es ++ es') as' j k' := by
  simp [recordedAt, recorded, tagged]

theorem emit_eq_recorded (s : State) (e : Event) : s.emit e = recorded s [e] s.answers := rfl

/-- A read of one byte that the oracle's list answers with a byte returns it (R55). -/
theorem in1_of_answers {st : Byte} {rest : List Word} (h : s.answers = st.setWidth 32 :: rest) (port : Port) :
    s.in1 port = st := by
  rw [State.in1, answer_cons h, BitVec.setWidth_setWidth_of_le _ (by decide), BitVec.setWidth_eq]

theorem afterIn1_of_answers {st : Byte} {rest : List Word} (h : s.answers = st.setWidth 32 :: rest) (port : Port) :
    s.afterIn1 port = recorded s [.in1 port st] rest := by
  rw [State.afterIn1, in1_of_answers h, emit_eq_recorded, h]
  rfl

theorem running_recordedAt (h : s.halted = false) (es : List Event) (as : List Word) (i : Instr) (k : Pos) :
    Running i k (recordedAt s es as i k) := ⟨h, rfl⟩

theorem setSeq_of_running (h : Running i k s) : s.setSeq (.run i k) = s := by
  rw [← h.2]
  rfl

theorem execTimes_succ (h : exec i s = .next t) (n : Nat) : execTimes i (n + 1) s = execTimes i n t := by
  rw [execTimes, h]

theorem execTimes_one (i : Instr) (s : State) : execTimes i 1 s = exec i s := by
  rw [execTimes]
  cases exec i s <;> rfl

/-- States in which the request answers alike start the same runs. -/
theorem execTimes_congr {es : List Event} (h : exec i s = exec i t) (hes : es ≠ []) :
    execTimes i es.length s = execTimes i es.length t := by
  cases es with
  | nil => exact absurd rfl hes
  | cons e es => rw [List.length_cons, execTimes, h, execTimes]

/-- A run of `m` steps and then `n` is one of `m + n`. -/
theorem execTimes_add {m : Nat} (h : execTimes i m s = .next t) (n : Nat) :
    execTimes i (m + n) s = execTimes i n t := by
  induction m generalizing s with
  | zero => cases h; rw [Nat.zero_add]
  | succ m ih =>
    rw [Nat.succ_add, execTimes]
    rw [execTimes] at h
    split at h
    · exact ih h
    · cases h
    · cases h

end Runs

section StatusWaits

variable {i : Instr} {b : Bases} {at_ : WaitPhase → Pos} {done : Byte → Bool} {exit : Byte → State → Out} {s : State}

/-- Wherever the driver and the parameters are those of `s`, request `i` at `at_ p` runs this wait. -/
def RunsWait (i : Instr) (b : Bases) (at_ : WaitPhase → Pos) (done : Byte → Bool) (exit : Byte → State → Out)
    (s : State) : Prop :=
  ∀ p t, Running i (at_ p) t → t.driver = s.driver → t.params = s.params →
    exec i t = statusWait i b at_ done exit p t

theorem statusWait_done {st : Byte} {rest : List Word} (ha : s.answers = st.setWidth 32 :: rest)
    (hd : done st = true) :
    statusWait i b at_ done exit .read s = exit st (recorded s [.in1 (b.cmd + 7) st] rest) := by
  rw [statusWait, in1_of_answers ha, if_pos hd, afterIn1_of_answers ha]
  rfl

theorem statusWait_failed {st : Byte} {rest : List Word} (ha : s.answers = st.setWidth 32 :: rest)
    (hd : done st = false) :
    statusWait i b at_ done exit .read s =
      goto i (at_ (afterFailed s.params.warnInterval (s.spin + 1)))
        ((recorded s [.in1 (b.cmd + 7) st] rest).setSpin (s.spin + 1)) := by
  rw [statusWait, in1_of_answers ha, if_neg (Bool.eq_false_iff.1 hd), afterIn1_of_answers ha]
  rfl

/-- The events of one failed read that makes the count `n`: the read, and the diagnostic where it is due (R140). -/
def failedReadEvents (interval : Nat) (base : Port) (n : Nat) (st : Byte) : List Event :=
  .in1 (base + 7) st :: if n % interval = 0 then [.diag base] else []

theorem waitEvents_cons (interval : Nat) (base : Port) (last : Byte) (n : Nat) (st : Byte) (fails : List Byte) :
    waitEvents interval base last n (st :: fails) =
      failedReadEvents interval base (n + 1) st ++ waitEvents interval base last (n + 1) fails := by
  rw [waitEvents, failedReadEvents, List.cons_append]

theorem waitEvents_ne_nil (interval : Nat) (base : Port) (last : Byte) (n : Nat) (fails : List Byte) :
    waitEvents interval base last n fails ≠ [] := by
  cases fails <;> exact List.cons_ne_nil _ _

/-- A failed read, with its diagnostic where one is due, leads back to the wait's read (R140). -/
theorem execTimes_failedRead (hw : RunsWait i b at_ done exit s) (hr : Running i (at_ .read) s) {st : Byte}
    {rest : List Word} (ha : s.answers = st.setWidth 32 :: rest) (hd : done st = false) :
    execTimes i (failedReadEvents s.params.warnInterval b.cmd (s.spin + 1) st).length s =
      .next ((recorded s (failedReadEvents s.params.warnInterval b.cmd (s.spin + 1) st) rest).setSpin (s.spin + 1)) := by
  have hread := (hw .read s hr rfl rfl).trans (statusWait_failed ha hd)
  have hback (es : List Event) : ((recorded s es rest).setSpin (s.spin + 1)).setSeq (.run i (at_ .read)) =
      (recorded s es rest).setSpin (s.spin + 1) := setSeq_of_running hr
  by_cases hdue : (s.spin + 1) % s.params.warnInterval = 0
  · rw [afterFailed, if_pos hdue] at hread
    have hdiag := hw .diag (((recorded s [.in1 (b.cmd + 7) st] rest).setSpin (s.spin + 1)).setSeq (.run i (at_ .diag)))
      ⟨hr.1, rfl⟩ rfl rfl
    rw [failedReadEvents, if_pos hdue, ← hback, ← List.singleton_append, ← recorded_recorded _ _ _ rest]
    exact (execTimes_succ hread 1).trans ((execTimes_one i _).trans hdiag)
  · rw [afterFailed, if_neg hdue] at hread
    rw [failedReadEvents, if_neg hdue, ← hback]
    exact execTimes_succ hread 0

/-- A status wait reads the failing bytes, with the diagnostics between them, and leaves on the last one (R140). -/
theorem execTimes_statusWait {last : Byte} {rest : List Word} (hlast : done last = true) (fails : List Byte) (s : State)
    (hw : RunsWait i b at_ done exit s) (hr : Running i (at_ .read) s) (hfails : ∀ st ∈ fails, done st = false)
    (ha : s.answers = byteAnswers (fails ++ [last]) ++ rest) :
    execTimes i (waitEvents s.params.warnInterval b.cmd last s.spin fails).length s =
      exit last ((recorded s (waitEvents s.params.warnInterval b.cmd last s.spin fails) rest).setSpin
        (s.spin + fails.length)) := by
  induction fails generalizing s with
  | nil => exact (execTimes_one i s).trans ((hw .read s hr rfl rfl).trans (statusWait_done ha hlast))
  | cons st fails ih =>
    obtain ⟨hst, hfails⟩ := List.forall_mem_cons.1 hfails
    have hfirst := execTimes_failedRead hw hr (rest := byteAnswers (fails ++ [last]) ++ rest) ha hst
    rw [waitEvents_cons, List.length_append, execTimes_add hfirst,
      ← recorded_recorded s _ _ (byteAnswers (fails ++ [last]) ++ rest), List.length_cons, Nat.add_comm fails.length,
      ← Nat.add_assoc]
    exact ih ((recorded s _ (byteAnswers (fails ++ [last]) ++ rest)).setSpin (s.spin + 1)) hw hr hfails rfl

end StatusWaits

end Sys2Proof.Machine
end

section
/-! ## PROBE (O22, O23)

PROBE's run is its wait and then its polls; `afterPoll` says what each poll decides (R143). -/

namespace Sys2Proof.Machine

theorem byteAnswers_append (xs ys : List Byte) : byteAnswers (xs ++ ys) = byteAnswers xs ++ byteAnswers ys :=
  List.map_append

theorem readEvents_append (port : Port) (xs ys : List Byte) :
    readEvents port (xs ++ ys) = readEvents port xs ++ readEvents port ys := List.map_append

section Probe

variable {vendor device tagf : BitVec 16} {b : Bases} {s : State}

theorem exec_attach_of_running {k : Pos} (h : Running (.attach vendor device tagf) k s) :
    exec (.attach vendor device tagf) s = attachGo vendor device tagf k s := by
  rw [exec, execAttach, onRequest_running h]

/-- With a driver installed, a running ATTACH at `probeWait` runs PROBE's wait (R143). -/
theorem runsWait_probe (hb : s.driver.bases = some b) :
    RunsWait (.attach vendor device tagf) b .probeWait (probeWaitDone s.params.probeWait)
      (fun _ => goto (.attach vendor device tagf) (.probePoll 0)) s := by
  intro p t hr hd hp
  rw [exec_attach_of_running hr, ← hp]
  exact withBases_eq (hd ▸ hb)

/-- The port PROBE polls (R143). -/
def pollPort (p : Params) (base : Port) : Port := if p.probeReg = .sectorCount then base + 2 else base + 7

theorem taskReg_probeOffset (p : Params) (b : Bases) : taskReg b (probeOffset p.probeReg) = pollPort p b.cmd := by
  rw [pollPort]
  cases p.probeReg <;> rfl

theorem exec_probePoll {n : Nat} {r : Byte} {rest : List Word}
    (hr : Running (.attach vendor device tagf) (.probePoll n) s) (hb : s.driver.bases = some b)
    (ha : s.answers = r.setWidth 32 :: rest) :
    exec (.attach vendor device tagf) s =
      afterPoll (.attach vendor device tagf) n r (recorded s [.in1 (pollPort s.params b.cmd) r] rest) := by
  rw [exec_attach_of_running hr, ← taskReg_probeOffset, ← afterIn1_of_answers ha]
  refine (withBases_eq hb).trans ?_
  rw [in1_of_answers ha]

/-- A zero before the last poll goes on to the next (R143). -/
theorem afterPoll_zero {i : Instr} {n : Nat} (hn : n + 1 < 1000) (s : State) :
    afterPoll i n 0 s = goto i (.probePoll (n + 1)) s := if_pos hn

/-- Polls that read zero lead on to one that reads `r` (R143). -/
theorem execTimes_pollsUpTo (hb : s.driver.bases = some b) {k : Nat} {r : Byte} {rest : List Word} (hk : k < 1000)
    (hr : Running (.attach vendor device tagf) (.probePoll 0) s)
    (ha : s.answers = byteAnswers (List.replicate k 0 ++ [r]) ++ rest) :
    execTimes (.attach vendor device tagf) (k + 1) s =
      afterPoll (.attach vendor device tagf) k r
        (recordedAt s (readEvents (pollPort s.params b.cmd) (List.replicate k 0 ++ [r])) rest
          (.attach vendor device tagf) (.probePoll k)) := by
  induction k generalizing r rest with
  | zero =>
    rw [execTimes_one, exec_probePoll hr hb ha]
    exact congrArg _ (setSeq_of_running (s := recorded s _ rest) hr).symm
  | succ k ih =>
    rw [List.replicate_succ', byteAnswers_append, List.append_assoc] at ha
    have hzero : execTimes (.attach vendor device tagf) (k + 1) s =
        .next (recordedAt s (readEvents (pollPort s.params b.cmd) (List.replicate k 0 ++ [0])) (r.setWidth 32 :: rest)
          (.attach vendor device tagf) (.probePoll (k + 1))) := (ih (by omega) ha).trans (afterPoll_zero hk _)
    rw [execTimes_add hzero, execTimes_one, exec_probePoll (running_recordedAt hr.1 _ _ _ _) hb rfl,
      List.replicate_succ', readEvents_append _ _ [r], ← recordedAt_recordedAt]
    rfl

/-- The last poll decides: the nonzero byte, or the 1000th zero (R143). -/
theorem exists_last_of_pollsShow {polls : List Byte} {present : Bool} (h : PollsShow polls present) :
    ∃ k r, k < 1000 ∧ polls = List.replicate k 0 ++ [r] ∧ ∀ i t, afterPoll i k r t = endProbe present t := by
  obtain ⟨k, r, hk, hr, rfl, hpresent⟩ | ⟨rfl, rfl⟩ := h
  · refine ⟨k, r, hk, rfl, fun i t => ?_⟩
    have hverdict : probeVerdict r = some present := by
      cases present with
      | true => rw [probeVerdict, if_neg (hpresent.1 rfl), if_neg hr]
      | false => rw [probeVerdict, if_pos (by simpa using hpresent)]
    rw [afterPoll, hverdict]
  · exact ⟨999, 0, by decide, List.replicate_succ', fun i t => rfl⟩

theorem endProbe_eq (present : Bool) (s : State) :
    endProbe present s = .next ((afterProbe s present s.driver.attachValue).setSeq .idle) := by
  cases present <;> rfl

/-- The polls, one step each, end ATTACH with what they show (R143). -/
theorem execTimes_polls (hb : s.driver.bases = some b) {polls : List Byte} {present : Bool} {rest : List Word}
    (hr : Running (.attach vendor device tagf) (.probePoll 0) s) (hpolls : PollsShow polls present)
    (ha : s.answers = byteAnswers polls ++ rest) :
    execTimes (.attach vendor device tagf) polls.length s =
      .next ((afterProbe (recorded s (readEvents (pollPort s.params b.cmd) polls) rest) present
        s.driver.attachValue).setSeq .idle) := by
  obtain ⟨k, r, hk, rfl, hlast⟩ := exists_last_of_pollsShow hpolls
  rw [List.length_append, List.length_replicate, List.length_singleton, execTimes_pollsUpTo hb hk hr ha, hlast,
    endProbe_eq]
  rfl

/-- The events of PROBE at `base` (R143). -/
def probeEvents (p : Params) (base : Port) (fails : List Byte) (last : Byte) (polls : List Byte) : List Event :=
  waitEvents p.warnInterval base last 0 fails ++ readEvents (pollPort p base) polls

theorem probeEvents_ne_nil (p : Params) (base : Port) (fails : List Byte) (last : Byte) (polls : List Byte) :
    probeEvents p base fails last polls ≠ [] := List.append_ne_nil_of_left_ne_nil (waitEvents_ne_nil _ _ _ _ _) _

/-- PROBE, from its wait with the count at 0, ends ATTACH with what its polls show (R124, R125, R143). -/
theorem execTimes_probe {d : Driver} {p : Params} (hr : Running (.attach vendor device tagf) (.probeWait .read) s)
    (hd : s.driver = d) (hp : s.params = p) (hspin : s.spin = 0) (hb : d.bases = some b)
    {fails polls : List Byte} {last : Byte} {present : Bool} {rest : List Word}
    (hfails : ∀ st ∈ fails, probeWaitDone p.probeWait st = false) (hlast : probeWaitDone p.probeWait last = true)
    (hpolls : PollsShow polls present) (ha : s.answers = byteAnswers (fails ++ [last] ++ polls) ++ rest) :
    execTimes (.attach vendor device tagf) (probeEvents p b.cmd fails last polls).length s =
      .next (((afterProbe (recorded s (probeEvents p b.cmd fails last polls) rest) present d.attachValue).setSpin
        fails.length).setSeq .idle) := by
  subst hd hp
  rw [byteAnswers_append, List.append_assoc] at ha
  have hwait := execTimes_statusWait hlast fails s (runsWait_probe hb) hr hfails ha
  rw [hspin, Nat.zero_add] at hwait
  rw [probeEvents, List.length_append, execTimes_add hwait, readEvents, List.length_map, ← readEvents,
    ← recorded_recorded s _ _ (byteAnswers polls ++ rest)]
  exact execTimes_polls (s := (recordedAt s _ (byteAnswers polls ++ rest) _ _).setSpin _) hb ⟨hr.1, rfl⟩ hpolls rfl

end Probe

end Sys2Proof.Machine
end

section
/-! ## ATTACH of a LEGACY and of a NATIVE device (O22, O23) -/

namespace Sys2Proof.Machine

section ConfigReads

variable {i : Instr} {tagf : BitVec 16} {reg : BitVec 8} {at_ : CfgPhase → Pos} {done : Word → State → Out} {s : State}

theorem configRead_address :
    configRead i (tagOfField tagf) reg at_ done .address s =
      .next ((recordedAt s [.out4 0xCF8 (addressWord tagf reg.toNat)] s.answers i (at_ .data)).setCfgAddr
        (addressWord tagf reg.toNat)) := by
  rw [← cfgAddrWord_eq_addressWord]
  rfl

theorem configRead_data {v : Word} {rest : List Word} (ha : s.answers = v :: rest) :
    configRead i (tagOfField tagf) reg at_ done .data s =
      .next (recordedAt s [.in4 0xCFC v] rest i (at_ (.close v))) := by
  have hv : s.in4 Config.cfgDataPort = v := answer_cons ha _ 4
  rw [configRead, hv, afterIn4_of_answers ha]
  rfl

/-- Request `i` at `at_ p` runs this configuration read. -/
def RunsConfigRead (i : Instr) (tagf : BitVec 16) (reg : BitVec 8) (at_ : CfgPhase → Pos) (done : Word → State → Out) :
    Prop :=
  ∀ p t, Running i (at_ p) t → exec i t = configRead i (tagOfField tagf) reg at_ done p t

/-- With the address open, a configuration read goes on with its data read and its closing write (R101). -/
theorem execTimes_configData (hc : RunsConfigRead i tagf reg at_ done) (hr : Running i (at_ .data) s) {v : Word}
    {rest : List Word} (ha : s.answers = v :: rest) :
    execTimes i 2 s = done v (closeConfig (recordedAt s [.in4 0xCFC v] rest i (at_ (.close v)))) := by
  have hdata := (hc .data s hr).trans (configRead_data ha)
  rw [execTimes_succ hdata, execTimes_one]
  exact hc (.close v) _ (running_recordedAt hr.1 _ _ _ _)

/-- A configuration read takes its three events and closes the address (R101). -/
theorem execTimes_configRead (hc : RunsConfigRead i tagf reg at_ done) (hr : Running i (at_ .address) s) {v : Word}
    {rest : List Word} (ha : s.answers = v :: rest) :
    execTimes i 3 s =
      done v ((recordedAt s (configReadEvents tagf reg.toNat v) rest i (at_ (.close v))).setCfgAddr 0) := by
  have haddress := (hc .address s hr).trans configRead_address
  have hopen : Running i (at_ .data) ((recordedAt s [.out4 0xCF8 (addressWord tagf reg.toNat)] s.answers i
      (at_ .data)).setCfgAddr (addressWord tagf reg.toNat)) := ⟨hr.1, rfl⟩
  rw [execTimes_succ haddress, execTimes_configData hc hopen ha]
  refine congrArg (done v) ?_
  simp [closeConfig, openConfig, State.emit, recordedAt, recorded, tagged, configReadEvents, State.setCfgAddr,
    Config.cfgAddrPort]

end ConfigReads

section NativeReads

variable {vendor device tagf : BitVec 16} {s : State}

theorem runsConfigRead_native (n : NativeRead) :
    RunsConfigRead (.attach vendor device tagf) tagf n.reg (.attachCfg n) fun v s =>
      afterNativeRead (.attach vendor device tagf) n (cfgExtract v n.reg (n.width s.params)) s :=
  fun _ _ hr => exec_attach_of_running hr

/-- A read of the native handler (R125). -/
theorem execTimes_nativeRead {n : NativeRead} {v : Word} {rest : List Word}
    (hr : Running (.attach vendor device tagf) (.attachCfg n .address) s) (ha : s.answers = v :: rest) :
    execTimes (.attach vendor device tagf) 3 s =
      afterNativeRead (.attach vendor device tagf) n (cfgExtract v n.reg (n.width s.params))
        ((recordedAt s (configReadEvents tagf n.reg.toNat v) rest (.attach vendor device tagf)
          (.attachCfg n (.close v))).setCfgAddr 0) :=
  execTimes_configRead (runsConfigRead_native n) hr ha

/-- `s` at the native handler's read `n`, after the events `es` of the reads before it. -/
def readingAt (s : State) (es : List Event) (as : List Word) (i : Instr) (n : NativeRead) : State :=
  (recordedAt s es as i (.attachCfg n .address)).setCfgAddr 0

/-- A read after the first stands in the trace after those before it (R125). -/
theorem execTimes_readingAt {n : NativeRead} {v : Word} {rest : List Word} {es : List Event} (h : s.halted = false) :
    execTimes (.attach vendor device tagf) 3 (readingAt s es (v :: rest) (.attach vendor device tagf) n) =
      afterNativeRead (.attach vendor device tagf) n (cfgExtract v n.reg (n.width s.params))
        ((recordedAt s (es ++ configReadEvents tagf n.reg.toNat v) rest (.attach vendor device tagf)
          (.attachCfg n (.close v))).setCfgAddr 0) := by
  rw [← recordedAt_recordedAt s es _ (v :: rest) rest (.attach vendor device tagf) _ (.attachCfg n .address)]
  exact execTimes_nativeRead ⟨h, rfl⟩ rfl

/-- The native handler's configuration events (R125). -/
def nativeReadEvents (tagf : BitVec 16) (q b0 b1 b4 : Word) : List Event :=
  configReadEvents tagf 0x3C q ++ configReadEvents tagf 0x10 b0 ++ configReadEvents tagf 0x14 b1 ++
    configReadEvents tagf 0x20 b4

/-- The NATIVE driver of the words read (R125): the decoded bases, and the interrupt line of P_IRQ_WIDTH bytes. -/
def driverOfWords (p : Params) (q b0 b1 b4 : Word) : Driver :=
  nativeDriver (cfgExtract q 0x3C p.irqWidth.bytes) (cfgExtract b0 0x10 4) (cfgExtract b1 0x14 4) (cfgExtract b4 0x20 4)

theorem cfgExtract_eq_ofNat {v : Word} {reg : BitVec 8} {n : Nat} (hreg : reg.toNat % 4 = 0) (hn : n ≤ 4) :
    cfgExtract v reg n = BitVec.ofNat 32 (v.toNat % 256 ^ n) := by
  rw [← BitVec.setWidth_eq (cfgExtract v reg n), ← BitVec.ofNat_toNat, cfgExtract_toNat hn, hreg, pow_zero, Nat.div_one]

/-- An aligned read of 4 bytes gives the word (R101). -/
theorem cfgExtract_four {v : Word} {reg : BitVec 8} (hreg : reg.toNat % 4 = 0) : cfgExtract v reg 4 = v := by
  rw [cfgExtract_eq_ofNat hreg le_rfl, Nat.mod_eq_of_lt (show v.toNat < 256 ^ 4 from v.isLt), BitVec.ofNat_toNat,
    BitVec.setWidth_eq]

theorem driverOfWords_eq (p : Params) (q b0 b1 b4 : Word) :
    driverOfWords p q b0 b1 b4 =
      .native ⟨barBase b0, barBase b1, BitVec.ofNat 32 (q.toNat % 256 ^ p.irqWidth.bytes)⟩ (barBase b4) := by
  have hwidth : p.irqWidth.bytes ≤ 4 := by cases p.irqWidth <;> decide
  rw [driverOfWords, nativeDriver, cfgExtract_four rfl, cfgExtract_four rfl, cfgExtract_four rfl,
    cfgExtract_eq_ofNat rfl hwidth, barDecode_eq_barBase, barDecode_eq_barBase, barDecode_eq_barBase]

/-- `s` at PROBE's wait, after the events `es` of the native handler that installed the driver. -/
def installedAt (s : State) (d : Driver) (es : List Event) (as : List Word) (i : Instr) : State :=
  { recordedAt s es as i (.probeWait .read) with driver := d, cfgAddr := some 0, spin := 0 }

theorem running_installedAt (h : s.halted = false) (d : Driver) (es : List Event) (as : List Word) (i : Instr) :
    Running i (.probeWait .read) (installedAt s d es as i) := ⟨h, rfl⟩

theorem recorded_installedAt (s : State) (d : Driver) (es es' : List Event) (as as' : List Word) (i : Instr) :
    recorded (installedAt s d es as i) es' as' = installedAt s d (es ++ es') as' i := by
  simp [installedAt, recordedAt, recorded, tagged]

/-- The four reads of the native handler install the driver (R125). -/
theorem execTimes_nativeReads {q b0 b1 b4 : Word} {rest : List Word}
    (hr : Running (.attach vendor device tagf) (.attachCfg .irq .address) s)
    (ha : s.answers = [q, b0, b1, b4] ++ rest) :
    execTimes (.attach vendor device tagf) (nativeReadEvents tagf q b0 b1 b4).length s =
      .next (installedAt s (driverOfWords s.params q b0 b1 b4) (nativeReadEvents tagf q b0 b1 b4) rest
        (.attach vendor device tagf)) := by
  have hirq : execTimes (.attach vendor device tagf) 3 s =
      .next (readingAt s (configReadEvents tagf 0x3C q) ([b0, b1, b4] ++ rest) (.attach vendor device tagf)
        (.bar0 (cfgExtract q 0x3C s.params.irqWidth.bytes))) := execTimes_nativeRead hr ha
  calc execTimes (.attach vendor device tagf) 12 s
    _ = execTimes (.attach vendor device tagf) 9 _ := execTimes_add hirq 9
    _ = execTimes (.attach vendor device tagf) 6
          (readingAt s (configReadEvents tagf 0x3C q ++ configReadEvents tagf 0x10 b0) ([b1, b4] ++ rest)
            (.attach vendor device tagf)
            (.bar1 (cfgExtract q 0x3C s.params.irqWidth.bytes) (cfgExtract b0 0x10 4))) :=
      execTimes_add (execTimes_readingAt hr.1) 6
    _ = execTimes (.attach vendor device tagf) 3
          (readingAt s (configReadEvents tagf 0x3C q ++ configReadEvents tagf 0x10 b0 ++ configReadEvents tagf 0x14 b1)
            ([b4] ++ rest) (.attach vendor device tagf)
            (.bar4 (cfgExtract q 0x3C s.params.irqWidth.bytes) (cfgExtract b0 0x10 4) (cfgExtract b1 0x14 4))) :=
      execTimes_add (execTimes_readingAt hr.1) 3
    _ = _ := execTimes_readingAt hr.1

end NativeReads

section Attach

variable {vendor device tagf : BitVec 16} {s : State}

/-- The state from which the handler of an ATTACH that `s` accepts takes its first event (R124, R125). -/
def acceptedAttach (i : Instr) (s : State) : Handler → State
  | .legacy => ((s.nextId.setDriver legacyDriver).setSpin 0).setSeq (.run i (.probeWait .read))
  | .native => s.nextId.setSeq (.run i (.attachCfg .irq .address))

theorem running_acceptedAttach_legacy (h : Ready s) (i : Instr) :
    Running i (.probeWait .read) (acceptedAttach i s .legacy) := ⟨h.1, rfl⟩

theorem running_acceptedAttach_native (h : Ready s) (i : Instr) :
    Running i (.attachCfg .irq .address) (acceptedAttach i s .native) := ⟨h.1, rfl⟩

/-- The end of a native ATTACH, in the fields of the state that accepted it (R125). -/
theorem afterProbe_installedAt (h : Ready s) (d : Driver) (es : List Event) (as : List Word) (i : Instr)
    (present : Bool) (value : Word) (n : Nat) :
    ((afterProbe (installedAt (acceptedAttach i s .native) d es as i) present value).setSpin n).setSeq .idle =
      { afterProbe (afterEvents s es as) present value with driver := d, cfgAddr := some 0, spin := n } := by
  simp [installedAt, acceptedAttach, recordedAt, recorded, afterProbe, afterEvents, State.setSeq, State.setSpin,
    State.nextId, h.2]

/-- PROBE after the native handler ends ATTACH with what its polls show (R125, R143). -/
theorem execTimes_nativeProbe (h : Ready s) {d : Driver} {b : Bases} (hb : d.bases = some b) {es : List Event}
    {fails polls : List Byte} {last : Byte} {present : Bool} {rest : List Word}
    (hfails : ∀ st ∈ fails, probeWaitDone s.params.probeWait st = false)
    (hlast : probeWaitDone s.params.probeWait last = true) (hpolls : PollsShow polls present) :
    execTimes (.attach vendor device tagf) (probeEvents s.params b.cmd fails last polls).length
        (installedAt (acceptedAttach (.attach vendor device tagf) s .native) d es
          (byteAnswers (fails ++ [last] ++ polls) ++ rest) (.attach vendor device tagf)) =
      .next { afterProbe (afterEvents s (es ++ probeEvents s.params b.cmd fails last polls) rest) present d.attachValue with
        driver := d, cfgAddr := some 0, spin := fails.length } := by
  rw [← afterProbe_installedAt h d _ rest (.attach vendor device tagf),
    ← recorded_installedAt _ d es _ (byteAnswers (fails ++ [last] ++ polls) ++ rest)]
  exact execTimes_probe (running_installedAt (s := acceptedAttach _ s .native) h.1 d es _ _) rfl rfl rfl hb hfails hlast
    hpolls rfl

/-- ATTACH of a pair in the table starts the pair's handler (R122, log 1). -/
theorem exec_attach_eq_accepted {handler : Handler} (h : Ready s) (hd : s.driver = .none)
    (hl : lookupHandler s.params.attachTable vendor device = some handler) :
    exec (.attach vendor device tagf) s =
      exec (.attach vendor device tagf) (acceptedAttach (.attach vendor device tagf) s handler) := by
  have hstart : attachStart vendor device tagf s.nextId = runHandler vendor device tagf handler s.nextId := by
    simp [attachStart, hl, hd]
  rw [exec_attach_of_ready h, hstart]
  cases handler with
  | legacy => exact (exec_attach_of_running (running_acceptedAttach_legacy h _)).symm
  | native => exact (exec_attach_of_running (running_acceptedAttach_native h _)).symm

end Attach

/-- Settles O22: PROBE's run, from the state in which the LEGACY driver is installed. -/
theorem legacyAttachCompletes : Obligations.LegacyAttachCompletes := by
  intro s vendor device tagf fails last polls rest present h hd hl hfails hlast hpolls ha es
  have hes : es = probeEvents s.params 0x1F0 fails last polls := rfl
  have hprobe := execTimes_probe (running_acceptedAttach_legacy h (.attach vendor device tagf)) rfl rfl rfl rfl hfails
    hlast hpolls ha
  rw [← h.2] at hprobe
  rw [hes, execTimes_congr (exec_attach_eq_accepted h hd hl) (probeEvents_ne_nil _ _ _ _ _)]
  exact hprobe

/-- Settles O23: the four configuration reads, and PROBE's run from the state in which the NATIVE driver is
installed. -/
theorem nativeAttachCompletes : Obligations.NativeAttachCompletes := by
  intro s vendor device tagf q b0 b1 b4 fails last polls rest present h hd hl hfails hlast hpolls ha base es
  have hes : es = nativeReadEvents tagf q b0 b1 b4 ++ probeEvents s.params base fails last polls :=
    List.append_assoc _ _ _
  have hne := List.append_ne_nil_of_right_ne_nil (nativeReadEvents tagf q b0 b1 b4)
    (probeEvents_ne_nil s.params base fails last polls)
  have hreads := execTimes_nativeReads (running_acceptedAttach_native h (.attach vendor device tagf)) ha
  rw [show (acceptedAttach _ s .native).params = s.params from rfl, driverOfWords_eq] at hreads
  rw [hes, execTimes_congr (exec_attach_eq_accepted h hd hl) hne, List.length_append, execTimes_add hreads]
  exact execTimes_nativeProbe h (b := ⟨base, _, _⟩) rfl hfails hlast hpolls

end Sys2Proof.Machine
end

section
/-! ## One event of START, of COMPLETE and of PROBE (O24, O28, O34, O37, O38)

Each rule says what `exec` answers at one position, by the oracle's next word where the event is a read. -/

namespace Sys2Proof.Machine

section Reads

/-! ### Reads of one byte that a listed word answers -/

variable {s : State} {a : Word} {rest : List Word}

/-- A read of one byte returns the low byte of the oracle's next word (R55). -/
theorem in1_of_word (h : s.answers = a :: rest) (port : Port) : s.in1 port = a.setWidth 8 := by
  rw [State.in1, answer_cons h]

theorem afterIn1_of_word (h : s.answers = a :: rest) (port : Port) :
    s.afterIn1 port = recorded s [.in1 port (a.setWidth 8)] rest := by
  rw [State.afterIn1, in1_of_word h, emit_eq_recorded, h]
  rfl

/-- One status read decides by the wait's exit test alone (R140). -/
theorem statusWait_read {i : Instr} {b : Bases} {at_ : WaitPhase → Pos} {done : Byte → Bool}
    {exit : Byte → State → Out} (h : s.answers = a :: rest) :
    statusWait i b at_ done exit .read s =
      if done (a.setWidth 8) then exit (a.setWidth 8) (recorded s [.in1 (b.cmd + 7) (a.setWidth 8)] rest)
      else goto i (at_ (afterFailed s.params.warnInterval (s.spin + 1)))
        ((recorded s [.in1 (b.cmd + 7) (a.setWidth 8)] rest).setSpin (s.spin + 1)) := by
  rw [statusWait, in1_of_word h, afterIn1_of_word h]
  rfl

/-- BUSY clear and READY set, as a mask (R80, R140). -/
theorem waitDone_iff {st : Byte} : waitDone st = true ↔ st &&& 0xC0 = 0x40 := by revert st; decide

/-- Neither ERROR nor DEVICE-FAULT, as a mask (R80, R140). -/
theorem checkedOk_iff {st : Byte} : checkedOk st = true ↔ st &&& 0x21 = 0 := by revert st; decide

end Reads

section Polls

/-! ### PROBE's polls -/

variable {vendor device tagf : BitVec 16} {b : Bases} {s : State}

/-- What a poll decides: the next poll, or PROBE's end (R143). -/
theorem afterPoll_eq (i : Instr) (n : Nat) (r : Byte) (s : State) :
    afterPoll i n r s = .next
      (if r = 0 ∧ n + 1 < 1000 then s.setSeq (.run i (.probePoll (n + 1)))
      else (afterProbe s (r ≠ 0 ∧ r ≠ 0xFF) s.driver.attachValue).setSeq .idle) := by
  by_cases hzero : r = 0
  · subst hzero
    by_cases hn : n + 1 < 1000
    · rw [afterPoll_zero hn, if_pos ⟨rfl, hn⟩]
      rfl
    · rw [if_neg (mt And.right hn)]
      exact (if_neg hn).trans (endProbe_eq false s)
  · have hverdict : probeVerdict r = some (decide (r ≠ 0 ∧ r ≠ 0xFF)) := by
      by_cases hfloat : r = 0xFF
      · subst hfloat
        rfl
      · rw [probeVerdict, if_neg hfloat, if_neg hzero, decide_eq_true ⟨hzero, hfloat⟩]
    have hends : ¬(r = 0 ∧ n + 1 < 1000) := mt And.left hzero
    rw [afterPoll, hverdict, if_neg hends, ← endProbe_eq]

theorem exec_probePoll_of_word {n : Nat} {a : Word} {rest : List Word}
    (hr : Running (.attach vendor device tagf) (.probePoll n) s) (hb : s.driver.bases = some b)
    (ha : s.answers = a :: rest) :
    exec (.attach vendor device tagf) s = afterPoll (.attach vendor device tagf) n (a.setWidth 8)
      (recorded s [.in1 (pollPort s.params b.cmd) (a.setWidth 8)] rest) := by
  rw [exec_attach_of_running hr, ← taskReg_probeOffset, ← afterIn1_of_word ha, ← in1_of_word ha]
  exact withBases_eq hb

/-- ATTACH's value for an installed driver (R124, R125). -/
theorem attachValue_of_bases (hb : s.driver.bases = some b) :
    s.driver.attachValue = if s.variant = .legacy then 1 else 2 := by
  rw [State.variant]
  cases hd : s.driver with
  | none => simp [hd, Driver.bases] at hb
  | legacy _ => rfl
  | native _ _ => rfl

end Polls

section StartEvents

/-! ### START's events -/

variable {unit : BitVec 1} {writing : Bool} {lba : BitVec 28} {payload : List Byte} {b : Bases} {k : Pos} {s : State}

theorem exec_start_of_running (h : Running (.start unit writing lba payload) k s) :
    exec (.start unit writing lba payload) s = startGo unit writing lba payload k s := by
  rw [exec, execStart, onRequest_running h]

/-- A running START at `startWait` runs the unchecked wait (R144). -/
theorem runsWait_start (hb : s.driver.bases = some b) :
    RunsWait (.start unit writing lba payload) b .startWait waitDone
      (fun _ => goto (.start unit writing lba payload) (.startReg .control)) s := by
  intro p t hr hd _
  rw [exec_start_of_running hr]
  exact withBases_eq (hd ▸ hb)

/-- The command write returns from a read START (R144). -/
theorem issueCommand_read (i : Instr) (hb : s.driver.bases = some b) :
    issueCommand i false s = finish 0 none ((s.emit (.out1 (b.cmd + 7) 0x20)).setXfer .readPending) :=
  withBases_eq hb

/-- The command write leads a write START to DRQ_WAIT (R144, R145). -/
theorem issueCommand_write (i : Instr) (hb : s.driver.bases = some b) :
    issueCommand i true s = goto i .startDrq (s.emit (.out1 (b.cmd + 7) 0x30)) :=
  withBases_eq hb

theorem exec_startCommand (hr : Running (.start unit writing lba payload) .startCommand s)
    (hb : s.driver.bases = some b) :
    exec (.start unit writing lba payload) s = issueCommand (.start unit writing lba payload) writing s := by
  rw [exec_start_of_running hr]
  exact withBases_eq hb

/-- The number of `n + 1` bytes from byte `k` up, by its lowest byte. -/
theorem leNat_take_drop (bs : List Byte) (k n : Nat) :
    leNat ((bs.drop k).take (n + 1)) = (bs.getD k 0).toNat + 256 * leNat ((bs.drop (k + 1)).take n) := by
  by_cases hk : k < bs.length
  · rw [List.drop_eq_getElem_cons hk, List.take_succ_cons, leNat, List.getD_eq_getElem _ _ hk]
  · replace hk := not_lt.1 hk
    rw [List.drop_eq_nil_of_le hk, List.drop_eq_nil_of_le (Nat.le_succ_of_le hk), List.getD_eq_default _ _ hk,
      List.take_nil, List.take_nil]
    rfl

theorem toNat_append_byte {n : Nat} (x : BitVec n) (y : Byte) : (x ++ y).toNat = y.toNat + 256 * x.toNat := by
  rw [BitVec.toNat_append, ← Nat.shiftLeft_add_eq_or_of_lt y.isLt, Nat.shiftLeft_eq]
  omega

/-- Sector word `i` is bytes `4i` to `4i + 3`, little-endian (R57). -/
theorem sectorWord_eq (payload : List Byte) (i : Nat) :
    sectorWord payload i = BitVec.ofNat 32 (leNat ((payload.drop (4 * i)).take 4)) := by
  apply BitVec.eq_of_toNat_eq
  rw [leNat_take_drop, leNat_take_drop, leNat_take_drop, leNat_take_drop, List.take_zero, sectorWord]
  simp only [toNat_append_byte, BitVec.toNat_ofNat, leNat, Nat.add_assoc, Nat.reduceAdd]
  omega

/-- The write of data word `i` (R144). -/
def pushEvent (b : Bases) (payload : List Byte) (i : Nat) : Event :=
  .out4 b.cmd (BitVec.ofNat 32 (leNat ((payload.drop (4 * i)).take 4)))

theorem exec_startPush {n : Nat} (hr : Running (.start unit writing lba payload) (.startPush n) s)
    (hb : s.driver.bases = some b) :
    exec (.start unit writing lba payload) s =
      afterPush (.start unit writing lba payload) n (s.emit (pushEvent b payload n)) := by
  rw [exec_start_of_running hr, pushEvent, ← sectorWord_eq, ← taskReg_zero]
  exact withBases_eq hb

end StartEvents

section CompleteEvents

/-! ### COMPLETE's events -/

variable {writing : Bool} {b : Bases} {k : Pos} {s : State}

theorem exec_complete_of_running (h : Running (.complete writing) k s) :
    exec (.complete writing) s = completeGo writing k s := by
  rw [exec, execComplete, onRequest_running h]

/-- A running COMPLETE at `completeWait` runs the checked wait (R147). -/
theorem runsWait_complete (hb : s.driver.bases = some b) :
    RunsWait (.complete writing) b .completeWait waitDone (afterCheckedWait (.complete writing)) s := by
  intro p t hr hd _
  rw [exec_complete_of_running hr]
  exact withBases_eq (hd ▸ hb)

/-- With a driver, a disk and the session START and COMPLETE are not refused (R149). -/
theorem ataCheck_of_session {session : Xfer} (hd : s.driver ≠ .none) (hp : s.present = true) (hx : s.xfer = session) :
    ataCheck session s = none := by
  simp [ataCheck, refuseUnless_eq_none, hd, hp, hx]

theorem exec_completeWrite_of_ready (h : Ready s) (hc : ataCheck .writePending s = none) :
    exec (.complete true) s = .next (answered (s.setXfer .idle) ⟨.ok, 0, none⟩) := by
  have haccept : execComplete true s = finish 0 none (s.setXfer .idle).nextId := onRequest_ready h hc
  exact haccept.trans (finish_of_ready (s := s.setXfer .idle) h 0 none)

end CompleteEvents

/-- Settles O24: `afterPoll` decides on the byte of the oracle's next word. -/
theorem probePollDecides : Obligations.ProbePollDecides := by
  intro s vendor device tagf n b a rest hr hb _ ha r port u value
  have hvalue : u.driver.attachValue = value := attachValue_of_bases hb
  rw [← hvalue]
  exact (exec_probePoll_of_word hr hb ha).trans (afterPoll_eq _ _ _ _)

/-- Settles O28: the command write ends a read START, the 128th data word a write START. -/
theorem startReturns : Obligations.StartReturns := by
  refine ⟨fun s unit lba payload b hr hb => ?_, fun s unit lba payload b hr hb => ?_⟩
  · exact (exec_startCommand hr hb).trans (issueCommand_read _ hb)
  · exact exec_startPush hr hb

/-- Settles O34: a write COMPLETE ends in the step that accepts it. -/
theorem completeWriteEndsSession : Obligations.CompleteWriteEndsSession :=
  fun _ h hd hp hx => ⟨_, exec_completeWrite_of_ready h (ataCheck_of_session hd hp hx), rfl⟩

/-- Settles O37: the exit test is the mask of BUSY and READY. -/
theorem startWaitReadDecides : Obligations.StartWaitReadDecides := by
  intro s unit writing lba payload b a rest hr hb ha st u
  rw [runsWait_start hb .read s hr rfl rfl, statusWait_read ha]
  by_cases hdone : st &&& 0xC0 = 0x40
  · rw [if_pos (waitDone_iff.2 hdone), if_pos hdone]
    rfl
  · rw [if_neg (mt waitDone_iff.1 hdone), if_neg hdone]
    rfl

/-- Settles O38: each of the three positions runs the diagnostic of a status wait. -/
theorem diagnosticHasNoEffect : Obligations.DiagnosticHasNoEffect := by
  rintro s i at_ b hr hb (⟨rfl, unit, writing, lba, payload, rfl⟩ | ⟨rfl, rfl⟩ | ⟨rfl, vendor, device, tagf, rfl⟩)
  · exact runsWait_start hb .diag s hr rfl rfl
  · exact runsWait_complete hb .diag s hr rfl rfl
  · exact runsWait_probe hb .diag s hr rfl rfl

end Sys2Proof.Machine
end

section
/-! ## The frames of START, of COMPLETE and of the device commands (O57, O58) -/

namespace Sys2Proof.Machine

section TransferFrames

variable {k : Pos} {s t : State}

/-- Nothing but the session, the wait count, the sequencer, the history, the result latch, the request id and the
oracle's answers may differ. -/
def WritesTransfer (s t : State) : Prop :=
  t = { s with
    xfer := t.xfer
    spin := t.spin
    seq := t.seq
    trace := t.trace
    result := t.result
    reqId := t.reqId
    answers := t.answers }

theorem WritesTransfer.refl (s : State) : WritesTransfer s s := rfl

/-- Nothing but the session, the sequencer, the history and the result latch may differ. -/
def WritesCommand (s t : State) : Prop :=
  t = { s with xfer := t.xfer, seq := t.seq, trace := t.trace, result := t.result }

theorem WritesCommand.refl (s : State) : WritesCommand s s := rfl

theorem WritesCommand.writesTransfer (h : WritesCommand s t) : WritesTransfer s t := by
  rw [WritesTransfer, h]

/-- What stays, field by field. -/
theorem WritesTransfer.fields (h : WritesTransfer s t) :
    t.params = s.params ∧ t.driver = s.driver ∧ t.present = s.present ∧ t.halted = s.halted ∧ t.fatal = s.fatal ∧
      t.cfgAddr = s.cfgAddr ∧ t.requests = s.requests := by
  rw [h]
  exact ⟨rfl, rfl, rfl, rfl, rfl, rfl, rfl⟩

theorem WritesCommand.fields (h : WritesCommand s t) :
    t.spin = s.spin ∧ t.answers = s.answers ∧ t.reqId = s.reqId := by
  rw [h]
  exact ⟨rfl, rfl, rfl⟩

theorem issueCommand_writesCommand {i : Instr} {writing : Bool} :
    Post (WritesCommand s) (issueCommand i writing s) := by
  refine post_withBases fun b _ => ?_
  cases writing with
  | true => exact post_goto.2 rfl
  | false => exact post_finish.2 rfl

theorem deviceCommand_writesCommand {writing : Bool} : Post (WritesCommand s) (deviceCommand writing s) :=
  post_deviceCommand (fun _ _ _ _ => issueCommand_writesCommand) (.refl s)

theorem statusWait_writesTransfer {i : Instr} {b : Bases} {at_ : WaitPhase → Pos} {done : Byte → Bool}
    {exit : Byte → State → Out} {p : WaitPhase}
    (hexit : ∀ st, Post (WritesTransfer s) (exit st (s.afterIn1 (taskReg b 7)))) :
    Post (WritesTransfer s) (statusWait i b at_ done exit p s) :=
  post_statusWait hexit (fun _ => rfl) rfl

theorem startGo_writesTransfer {unit : BitVec 1} {writing : Bool} {lba : BitVec 28} {payload : List Byte} :
    Post (WritesTransfer s) (startGo unit writing lba payload k s) := by
  refine post_withBases fun b _ => ?_
  cases k with
  | startWait p => exact statusWait_writesTransfer fun _ => post_goto.2 rfl
  | startReg r => exact post_goto.2 rfl
  | startCommand => exact issueCommand_writesCommand.mono fun _ => WritesCommand.writesTransfer
  | startDrq => exact post_goto.2 rfl
  | startPush n =>
    show Post _ (afterPush _ _ _)
    unfold afterPush
    split
    · exact post_goto.2 rfl
    · exact post_finish.2 rfl
  | _ => exact post_fault _

theorem completeGo_writesTransfer {writing : Bool} : Post (WritesTransfer s) (completeGo writing k s) := by
  refine post_withBases fun b _ => ?_
  cases k with
  | completeWait p =>
    refine statusWait_writesTransfer fun st => ?_
    unfold afterCheckedWait
    split
    · exact post_goto.2 rfl
    · rw [raise_of_not_fatal rfl]
      exact post_next.2 rfl
  | completePull got =>
    show Post _ (afterPull _ _ _)
    unfold afterPull
    split
    · exact post_goto.2 rfl
    · exact post_finish.2 rfl
  | _ => exact post_fault _

/-- A request that starts its run with a state that took the next id and a wait count keeps the frame of its run. -/
theorem WritesTransfer.of_accepted {n : Nat} (h : WritesTransfer (s.nextId.setSpin n) t) : WritesTransfer s t := by
  rw [WritesTransfer, h]
  rfl

theorem execStart_writesTransfer {unit : BitVec 1} {writing : Bool} {lba : BitVec 28} {payload : List Byte} :
    Post (WritesTransfer s) (execStart unit writing lba payload s) :=
  post_onRequest (fun _ _ => startGo_writesTransfer.mono fun _ => WritesTransfer.of_accepted)
    (fun _ _ => startGo_writesTransfer) (.refl s)

theorem execComplete_writesTransfer {writing : Bool} : Post (WritesTransfer s) (execComplete writing s) := by
  refine post_onRequest (fun _ _ => ?_) (fun _ _ => completeGo_writesTransfer) (.refl s)
  split
  · exact post_finish.2 rfl
  · exact completeGo_writesTransfer.mono fun _ => WritesTransfer.of_accepted

/-- A write COMPLETE that an idle block runs reads no port and records nothing (R147). -/
theorem execComplete_write_idle (hidle : s.seq = .idle) :
    Post (fun t => t.spin = s.spin ∧ t.trace = s.trace ∧ t.answers = s.answers) (execComplete true s) := by
  refine post_onRequest (fun _ _ => ?_) (fun k hk => ?_) ⟨rfl, rfl, rfl⟩
  · rw [if_pos rfl]
    exact post_finish.2 ⟨rfl, rfl, rfl⟩
  · cases hidle.symm.trans hk.2

end TransferFrames

/-- Settles O57: START writes the transfer's fields alone, a device command fewer of them. -/
theorem startFrame : Obligations.StartFrame := by
  intro s t i hi he
  obtain ⟨unit, writing, lba, payload, rfl⟩ | hi := hi
  · obtain ⟨hparams, hdriver, hpresent, hhalted, hfatal, haddr, hrequests⟩ :=
      (post_iff.1 execStart_writesTransfer t he).fields
    exact ⟨hparams, hdriver, hpresent, hhalted, hfatal, haddr, hrequests, by simp⟩
  · have hcommand : WritesCommand s t := by
      obtain rfl | rfl := hi
      · exact post_iff.1 deviceCommand_writesCommand t he
      · exact post_iff.1 deviceCommand_writesCommand t he
    obtain ⟨hparams, hdriver, hpresent, hhalted, hfatal, haddr, hrequests⟩ := hcommand.writesTransfer.fields
    exact ⟨hparams, hdriver, hpresent, hhalted, hfatal, haddr, hrequests, fun _ => hcommand.fields⟩

/-- Settles O58: COMPLETE writes the transfer's fields alone, and a write COMPLETE ends before any event. -/
theorem completeFrame : Obligations.CompleteFrame := by
  intro s t writing he
  obtain ⟨hparams, hdriver, hpresent, hhalted, hfatal, haddr, hrequests⟩ :=
    (post_iff.1 execComplete_writesTransfer t he).fields
  refine ⟨hparams, hdriver, hpresent, hhalted, hfatal, haddr, hrequests, ?_⟩
  rintro rfl hidle
  exact post_iff.1 (execComplete_write_idle hidle) t he

end Sys2Proof.Machine
end

section
/-! ## Waits that see no exit value (O39)

A run of `n` steps needs no more than `n` answers, since a step takes at most one. -/

namespace Sys2Proof.Machine

section Hangs

variable {i : Instr} {s : State}

/-- The next `n` listed answers hold no exit value. -/
def NoExit (fails : Word → Prop) (n : Nat) (answers : List Word) : Prop :=
  n ≤ answers.length ∧ ∀ a ∈ answers.take n, fails a

theorem NoExit.exists_cons {fails : Word → Prop} {n : Nat} {answers : List Word} (h : NoExit fails (n + 1) answers) :
    ∃ a rest, answers = a :: rest ∧ fails a ∧ NoExit fails n rest := by
  obtain ⟨hlen, hfails⟩ := h
  cases answers with
  | nil => cases hlen
  | cons a rest =>
    obtain ⟨ha, hrest⟩ := List.forall_mem_cons.1 hfails
    exact ⟨a, rest, rfl, ha, Nat.le_of_succ_le_succ hlen, hrest⟩

theorem NoExit.of_succ {fails : Word → Prop} {n : Nat} {answers : List Word} (h : NoExit fails (n + 1) answers) :
    NoExit fails n answers :=
  ⟨Nat.le_of_succ_le h.1, fun a ha => h.2 a (List.take_subset_take_left _ (Nat.le_succ n) ha)⟩

/-- A condition on the steps left that every step keeps, with the result latch as it was, holds after the run. -/
theorem exists_execTimes_of_keeps {Stays : Nat → State → Prop}
    (hkeeps : ∀ n s, Stays (n + 1) s → ∃ t, exec i s = .next t ∧ t.result = s.result ∧ Stays n t) (n : Nat) (s : State)
    (h : Stays n s) : ∃ t, execTimes i n s = .next t ∧ t.result = s.result ∧ Stays 0 t := by
  induction n generalizing s with
  | zero => exact ⟨s, rfl, rfl, h⟩
  | succ n ih =>
    obtain ⟨u, hexec, hu, hstays⟩ := hkeeps n s h
    obtain ⟨t, hrun, ht, hend⟩ := ih u hstays
    exact ⟨t, (execTimes_succ hexec n).trans hrun, ht.trans hu, hend⟩

/-- Request `i` stands in its status wait, and the next `n` answers do not end it. -/
def HangsInWait (i : Instr) (b : Bases) (at_ : WaitPhase → Pos) (done : Byte → Bool) (exit : Byte → State → Out)
    (n : Nat) (s : State) : Prop :=
  RunsWait i b at_ done exit s ∧ (∃ p, Running i (at_ p) s) ∧ NoExit (fun a => done (a.setWidth 8) = false) n s.answers

/-- A failed read uses up one answer, a diagnostic none; both stay in the wait (R140). -/
theorem HangsInWait.step {b : Bases} {at_ : WaitPhase → Pos} {done : Byte → Bool} {exit : Byte → State → Out} {n : Nat}
    (h : HangsInWait i b at_ done exit (n + 1) s) :
    ∃ t, exec i s = .next t ∧ t.result = s.result ∧ HangsInWait i b at_ done exit n t := by
  obtain ⟨hw, ⟨p, hr⟩, hfails⟩ := h
  have hexec := hw p s hr rfl rfl
  cases p with
  | read =>
    obtain ⟨a, rest, ha, hfail, hrest⟩ := hfails.exists_cons
    rw [statusWait_read ha, if_neg (Bool.eq_false_iff.1 hfail)] at hexec
    exact ⟨_, hexec, rfl, hw, ⟨_, hr.1, rfl⟩, hrest⟩
  | diag => exact ⟨_, hexec, rfl, hw, ⟨_, hr.1, rfl⟩, hfails.of_succ⟩

/-- A status wait has no bound (R140, R243). -/
theorem exists_execTimes_statusWait {b : Bases} {at_ : WaitPhase → Pos} {done : Byte → Bool}
    {exit : Byte → State → Out} {n : Nat} (hw : RunsWait i b at_ done exit s) (hr : Running i (at_ .read) s)
    (hfails : NoExit (fun a => done (a.setWidth 8) = false) n s.answers) :
    ∃ t p, execTimes i n s = .next t ∧ t.result = s.result ∧ Running i (at_ p) t := by
  obtain ⟨t, hrun, hresult, -, ⟨p, hp⟩, -⟩ :=
    exists_execTimes_of_keeps (Stays := HangsInWait i b at_ done exit) (fun _ _ => HangsInWait.step) n s
      ⟨hw, ⟨.read, hr⟩, hfails⟩
  exact ⟨t, p, hrun, hresult, hp⟩

theorem exists_bases (h : s.driver ≠ .none) : ∃ b, s.driver.bases = some b := by
  cases hd : s.driver with
  | none => exact absurd hd h
  | legacy b => exact ⟨b, rfl⟩
  | native b _ => exact ⟨b, rfl⟩

end Hangs

section DrqWait

variable {unit : BitVec 1} {writing : Bool} {lba : BitVec 28} {payload : List Byte} {b : Bases} {s : State}

/-- DRQ_WAIT's read leaves the loop where DRQ is set (R142). -/
theorem exec_startDrq {a : Word} {rest : List Word} (hr : Running (.start unit writing lba payload) .startDrq s)
    (hb : s.driver.bases = some b) (ha : s.answers = a :: rest) :
    exec (.start unit writing lba payload) s =
      .next (recordedAt s [.in1 (b.cmd + 7) (a.setWidth 8)] rest (.start unit writing lba payload)
        (if a.getLsbD 3 then .startPush 0 else .startDrq)) := by
  have hdrq : ataDrq (a.setWidth 8) = a.getLsbD 3 := by simp [ataDrq, statusBit]
  rw [exec_start_of_running hr, ← hdrq]
  refine (withBases_eq hb).trans ?_
  rw [in1_of_word ha, afterIn1_of_word ha]
  rfl

/-- A write START stands in DRQ_WAIT, and the next `n` answers do not end it. -/
def HangsInDrq (i : Instr) (n : Nat) (s : State) : Prop :=
  s.driver ≠ .none ∧ Running i .startDrq s ∧ NoExit (fun a => a.getLsbD 3 = false) n s.answers

theorem HangsInDrq.step {n : Nat} (h : HangsInDrq (.start unit writing lba payload) (n + 1) s) :
    ∃ t, exec (.start unit writing lba payload) s = .next t ∧ t.result = s.result ∧
      HangsInDrq (.start unit writing lba payload) n t := by
  obtain ⟨hd, hr, hfails⟩ := h
  obtain ⟨b, hb⟩ := exists_bases hd
  obtain ⟨a, rest, ha, hfail, hrest⟩ := hfails.exists_cons
  refine ⟨_, exec_startDrq hr hb ha, rfl, hd, ?_, hrest⟩
  rw [hfail]
  exact running_recordedAt hr.1 _ _ _ _

end DrqWait

/-- Settles O39: the three status waits are one argument, DRQ_WAIT the same without the diagnostic. -/
theorem waitsHaveNoTimeout : Obligations.WaitsHaveNoTimeout := by
  refine ⟨fun n s unit writing lba payload hr hd hn hfails => ?_, fun n s hr hd hn hfails => ?_,
    fun n s vendor device tagf hr hd hn hfails => ?_, fun n s unit lba payload hr hd hn hfails => ?_⟩
  · obtain ⟨b, hb⟩ := exists_bases hd
    exact exists_execTimes_statusWait (runsWait_start hb) hr ⟨hn, hfails⟩
  · obtain ⟨b, hb⟩ := exists_bases hd
    exact exists_execTimes_statusWait (runsWait_complete hb) hr ⟨hn, hfails⟩
  · obtain ⟨b, hb⟩ := exists_bases hd
    exact exists_execTimes_statusWait (runsWait_probe hb) hr ⟨hn, hfails⟩
  · obtain ⟨t, hrun, hresult, -, hstands, -⟩ :=
      exists_execTimes_of_keeps (fun _ _ => HangsInDrq.step) n s ⟨hd, hr, hn, hfails⟩
    exact ⟨t, hrun, hresult, hstands⟩

end Sys2Proof.Machine
end

section
/-! ## A read COMPLETE from its acceptance to its end (O31, O32) -/

namespace Sys2Proof.Machine

section Acceptance

/-- The state from which a START or COMPLETE that `s` accepts takes its first status read (R144, R147). -/
def acceptedAt (i : Instr) (at_ : WaitPhase → Pos) (s : State) : State :=
  (s.nextId.setSpin 0).setSeq (.run i (at_ .read))

theorem running_acceptedAt {s : State} (h : Ready s) (i : Instr) (at_ : WaitPhase → Pos) :
    Running i (at_ .read) (acceptedAt i at_ s) := ⟨h.1, rfl⟩

/-- A state inside a transfer that `s` accepted: at position `k` of request `i`, after the events `es`, with `n` failed
reads counted and the oracle's answers `as` left. -/
def transferAt (s : State) (n : Nat) (es : List Event) (as : List Word) (i : Instr) (k : Pos) : State :=
  { afterEvents s es as with spin := n, seq := .run i k }

theorem running_transferAt {s : State} (h : Ready s) (n : Nat) (es : List Event) (as : List Word) (i : Instr)
    (k : Pos) : Running i k (transferAt s n es as i k) := ⟨h.1, rfl⟩

theorem recordedAt_transferAt (s : State) (n : Nat) (es es' : List Event) (as as' : List Word) (i : Instr)
    (k k' : Pos) : recordedAt (transferAt s n es as i k) es' as' i k' = transferAt s n (es ++ es') as' i k' := by
  simp [recordedAt, recorded, transferAt, afterEvents, tagged]

/-- The end of a transfer, in the fields of the state that accepted it. -/
theorem finish_transferAt {s : State} (h : Ready s) (v : Word) (data : Option (List Byte)) (x : Xfer) (n : Nat)
    (es : List Event) (as : List Word) (i : Instr) (k : Pos) :
    finish v data ((transferAt s n es as i k).setXfer x) =
      .next { afterEvents s es as with spin := n, xfer := x, result := some ⟨.ok, v, data⟩ } := by
  rw [finish, ← h.2]
  rfl

/-- The wait of a START or COMPLETE, from the state that accepts it with the count at 0 (R140, R144, R147). -/
theorem execTimes_acceptedWait {s : State} {i : Instr} {b : Bases} {at_ : WaitPhase → Pos} {done : Byte → Bool}
    {exit : Byte → State → Out} {fails : List Byte} {last : Byte} {rest : List Word} (h : Ready s)
    (haccept : exec i s = exec i (acceptedAt i at_ s)) (hw : RunsWait i b at_ done exit s)
    (hfails : ∀ st ∈ fails, done st = false) (hlast : done last = true)
    (ha : s.answers = byteAnswers (fails ++ [last]) ++ rest) :
    execTimes i (waitEvents s.params.warnInterval b.cmd last 0 fails).length s =
      exit last (transferAt s fails.length (waitEvents s.params.warnInterval b.cmd last 0 fails) rest i
        (at_ .read)) := by
  have hwait := execTimes_statusWait hlast fails (acceptedAt i at_ s) hw (running_acceptedAt h _ _) hfails ha
  rw [execTimes_congr haccept (waitEvents_ne_nil _ _ _ _ _), ← Nat.zero_add fails.length]
  exact hwait

end Acceptance

section Bytes

/-! ### The bytes of the words read -/

theorem leNat_wordBytes (w : Word) : leNat (wordBytes w) = w.toNat := by
  simp only [wordBytes, leNat, BitVec.extractLsb'_toNat, Nat.shiftRight_eq_div_pow]
  omega

/-- Word `i` stands in bytes `4i` to `4i + 3` of a sector (R57, R147). -/
theorem take_drop_sectorBytesOf {ws : List Word} {i : Nat} (hi : i < ws.length) :
    ((sectorBytesOf ws).drop (4 * i)).take 4 = wordBytes (ws.getD i 0) := by
  induction ws generalizing i with
  | nil => cases hi
  | cons w ws ih =>
    cases i with
    | zero => rfl
    | succ i => exact ih (Nat.lt_of_succ_lt_succ hi)

end Bytes

section Complete

variable {b : Bases} {s : State} {fails : List Byte} {last : Byte} {rest : List Word}

theorem installed_of_bases (hb : s.driver.bases = some b) : s.driver ≠ .none := by
  intro hd
  simp [hd, Driver.bases] at hb

theorem exec_completeRead_eq_accepted (h : Ready s) (hc : ataCheck .readPending s = none) :
    exec (.complete false) s = exec (.complete false) (acceptedAt (.complete false) .completeWait s) := by
  have haccept : execComplete false s = completeGo false (.completeWait .read) (s.nextId.setSpin 0) :=
    onRequest_ready h hc
  exact haccept.trans (exec_complete_of_running (running_acceptedAt h (.complete false) .completeWait)).symm

/-- The checked wait of a read COMPLETE, from the state that accepts it (R147). -/
theorem execTimes_completeWait (h : Ready s) (hb : s.driver.bases = some b) (hc : ataCheck .readPending s = none)
    (hfails : ∀ st ∈ fails, waitDone st = false) (hlast : waitDone last = true)
    (ha : s.answers = byteAnswers (fails ++ [last]) ++ rest) :
    execTimes (.complete false) (waitEvents s.params.warnInterval b.cmd last 0 fails).length s =
      afterCheckedWait (.complete false) last
        (transferAt s fails.length (waitEvents s.params.warnInterval b.cmd last 0 fails) rest (.complete false)
          (.completeWait .read)) :=
  execTimes_acceptedWait h (exec_completeRead_eq_accepted h hc) (runsWait_complete hb) hfails hlast ha

/-- ERROR or DEVICE-FAULT ends the session and the request (R147, R205). -/
theorem afterCheckedWait_error (i : Instr) (hok : checkedOk last = false) (s : State) :
    afterCheckedWait i last s = .next (((s.setXfer .idle).setResult ⟨.diskMediaError, 0, none⟩).setSeq .idle) := by
  rw [afterCheckedWait, hok]
  exact raise_of_not_fatal rfl 0 _

theorem afterCheckedWait_ok (i : Instr) (hok : checkedOk last = true) (s : State) :
    afterCheckedWait i last s = goto i (.completePull []) s := if_pos hok

/-- Before the 128th word a COMPLETE goes on to the next (R147). -/
theorem afterPull_of_length_lt {i : Instr} {got : List Word} (h : got.length < 128) (s : State) :
    afterPull i got s = goto i (.completePull got) s := if_pos h

/-- The data reads that complete the 128 words return their bytes (R147). -/
theorem execTimes_pulls (hb : s.driver.bases = some b) {got ws : List Word} (hne : ws ≠ [])
    (hr : Running (.complete false) (.completePull got) s) (hlen : (got ++ ws).length = 128)
    (ha : s.answers = ws ++ rest) :
    execTimes (.complete false) ws.length s =
      finish 0 (some (sectorBytesOf (got ++ ws)))
        ((recordedAt s (ws.map (Event.in4 b.cmd)) rest (.complete false) (.completePull got)).setXfer .idle) := by
  induction ws generalizing s got with
  | nil => exact absurd rfl hne
  | cons w ws ih =>
    have hpull : exec (.complete false) s = afterPull (.complete false) (got ++ [w])
        (recorded s [.in4 b.cmd w] (ws ++ rest)) := execComplete_pull hr hb ha
    rw [List.append_cons] at hlen ⊢
    by_cases hlast : ws = []
    · subst hlast
      rw [List.append_nil] at hlen ⊢
      exact (execTimes_one _ s).trans (hpull.trans (afterPull_of_length_eq hlen _))
    · have hmore : (got ++ [w]).length < 128 := by
        have hpos := List.length_pos_iff.2 hlast
        rw [List.length_append] at hlen
        omega
      have hnext : exec (.complete false) s = .next (recordedAt s [.in4 b.cmd w] (ws ++ rest) (.complete false)
          (.completePull (got ++ [w]))) := hpull.trans (afterPull_of_length_lt hmore _)
      have hrest := ih (s := recordedAt s [.in4 b.cmd w] (ws ++ rest) _ _) hb hlast (running_recordedAt hr.1 _ _ _ _)
        hlen rfl
      rw [List.length_cons, execTimes_succ hnext, hrest, recordedAt_recordedAt]
      rfl

end Complete

/-- Settles O32: the checked wait ends the request. -/
theorem completeReadReportsMediaError : Obligations.CompleteReadReportsMediaError := by
  intro s b fails last rest h hb hp hx hfails hlast herror ha es
  have hc := ataCheck_of_session (installed_of_bases hb) hp hx
  have hok : checkedOk last = false := Bool.eq_false_iff.2 (mt checkedOk_iff.1 herror)
  rw [execTimes_completeWait h hb hc hfails hlast ha, afterCheckedWait_error _ hok, ← h.2]
  rfl

/-- Settles O31: the checked wait, then the data reads, whose words keep their places in the bytes returned. -/
theorem completeReadReturnsSector : Obligations.CompleteReadReturnsSector := by
  intro s b fails last ws rest h hb hp hx hfails hlast hclean hlen ha es
  refine ⟨sectorBytesOf ws, by rw [length_sectorBytesOf, hlen], fun i hi => ?_, ?_⟩
  · rw [take_drop_sectorBytesOf (hlen ▸ hi), leNat_wordBytes]
  · have hc := ataCheck_of_session (installed_of_bases hb) hp hx
    have hne : ws ≠ [] := List.ne_nil_of_length_pos (by omega)
    have hwait := (execTimes_completeWait h hb hc hfails hlast ha).trans
      (afterCheckedWait_ok _ (checkedOk_iff.2 hclean) _)
    have hstands := running_transferAt h fails.length (waitEvents s.params.warnInterval b.cmd last 0 fails) (ws ++ rest)
      (.complete false) (.completePull [])
    have hpulls := execTimes_pulls (s := transferAt s _ _ _ _ _) (rest := rest) hb hne hstands hlen rfl
    rw [recordedAt_transferAt, finish_transferAt h] at hpulls
    rw [List.length_append, execTimes_add hwait, List.length_map]
    exact hpulls

end Sys2Proof.Machine
end

section
/-! ## START from its acceptance to its end (O27)

START's parts one after another, each a run between two states inside the transfer. -/

namespace Sys2Proof.Machine

section TransferEvents

variable {s : State} {n : Nat} {es : List Event} {as : List Word} {i : Instr} {k : Pos}

theorem emit_transferAt (e : Event) : (transferAt s n es as i k).emit e = transferAt s n (es ++ [e]) as i k := by
  simp [State.emit, transferAt, afterEvents, tagged]

/-- The run of some events, and then of more. -/
theorem execTimes_append {t : State} (h : execTimes i es.length s = .next t) (es' : List Event) :
    execTimes i (es ++ es').length s = execTimes i es'.length t := by
  rw [List.length_append, execTimes_add h]

end TransferEvents

section StartWrites

/-! ### The register writes as numbers (R144, R74, R75) -/

/-- LBA byte `n` is the LBA's `n`-th byte in base 256, cut to 8 bits (R75). -/
theorem lbaByte_eq (lba : BitVec 28) (n : Nat) : lbaByte lba n = BitVec.ofNat 8 (lba.toNat / 2 ^ (8 * n)) := by
  rw [lbaByte, BitVec.extractLsb', Nat.shiftRight_eq_div_pow]

/-- The fields of the drive/head byte do not overlap, so it is their sum (R74). -/
theorem driveHeadByte_eq (unit : BitVec 1) (lba : BitVec 28) :
    driveHeadByte unit lba = BitVec.ofNat 8 (0xE0 + 0x10 * unit.toNat + lba.toNat / 2 ^ 24) := by
  have hsum : ∀ (u : BitVec 1) (l : BitVec 4),
      0xE0#8 ||| (u.setWidth 8 <<< 4) ||| l.setWidth 8 = BitVec.ofNat 8 (0xE0 + 0x10 * u.toNat + l.toNat) := by decide
  have hhigh : (lba.extractLsb' 24 4).toNat = lba.toNat / 2 ^ 24 := by
    rw [BitVec.extractLsb'_toNat, Nat.shiftRight_eq_div_pow]
    omega
  rw [driveHeadByte, hsum, hhigh]

/-- The six register writes before the command, in the source's order (R144). -/
def registerWrites (b : Bases) (unit : BitVec 1) (lba : BitVec 28) : List Event :=
  [StartReg.control, .sectorCount, .lbaLow, .lbaMid, .lbaHigh, .driveHead].map (StartReg.event b unit lba)

/-- The command write (R144). -/
def commandWrite (b : Bases) (writing : Bool) : Event := .out1 (b.cmd + 7) (if writing then 0x30 else 0x20)

theorem startWrites_eq (b : Bases) (unit : BitVec 1) (lba : BitVec 28) (writing : Bool) :
    startWrites b unit lba writing = registerWrites b unit lba ++ [commandWrite b writing] := by
  simp only [registerWrites, List.map_cons, StartReg.event, lbaByte_eq, driveHeadByte_eq]
  simp [startWrites, commandWrite, taskReg]

end StartWrites

section Start

/-! ### The parts of START -/

variable {unit : BitVec 1} {writing : Bool} {lba : BitVec 28} {payload : List Byte} {b : Bases} {s : State} {n : Nat}
  {es : List Event} {as rest : List Word}

theorem exec_start_eq_accepted (h : Ready s) (hc : ataCheck .idle s = none) (hp : payloadOk writing payload = true) :
    exec (.start unit writing lba payload) s =
      exec (.start unit writing lba payload) (acceptedAt (.start unit writing lba payload) .startWait s) := by
  have haccept : execStart unit writing lba payload s =
      startGo unit writing lba payload (.startWait .read) (s.nextId.setSpin 0) :=
    onRequest_ready h (refuseUnless_eq_none.2 ⟨hp, hc⟩)
  exact haccept.trans
    (exec_start_of_running (running_acceptedAt h (.start unit writing lba payload) .startWait)).symm

/-- START's wait goes on to its register writes whatever the error bits (R144). -/
theorem execTimes_startWait (h : Ready s) (hb : s.driver.bases = some b) (hc : ataCheck .idle s = none)
    (hp : payloadOk writing payload = true) {fails : List Byte} {last : Byte}
    (hfails : ∀ st ∈ fails, waitDone st = false) (hlast : waitDone last = true)
    (ha : s.answers = byteAnswers (fails ++ [last]) ++ rest) :
    execTimes (.start unit writing lba payload) (waitEvents s.params.warnInterval b.cmd last 0 fails).length s =
      .next (transferAt s fails.length (waitEvents s.params.warnInterval b.cmd last 0 fails) rest
        (.start unit writing lba payload) (.startReg .control)) :=
  execTimes_acceptedWait h (exec_start_eq_accepted h hc hp) (runsWait_start hb) hfails hlast ha

theorem exec_startReg_transferAt (h : Ready s) (hb : s.driver.bases = some b) (r : StartReg) :
    exec (.start unit writing lba payload) (transferAt s n es as (.start unit writing lba payload) (.startReg r)) =
      .next (transferAt s n (es ++ [r.event b unit lba]) as (.start unit writing lba payload) r.next) := by
  rw [exec_start_of_running (running_transferAt h _ _ _ _ _), ← emit_transferAt]
  exact withBases_eq hb

theorem execTimes_startRegs (h : Ready s) (hb : s.driver.bases = some b) :
    execTimes (.start unit writing lba payload) (registerWrites b unit lba).length
        (transferAt s n es as (.start unit writing lba payload) (.startReg .control)) =
      .next (transferAt s n (es ++ registerWrites b unit lba) as (.start unit writing lba payload) .startCommand) := by
  have hevents : es ++ registerWrites b unit lba = es ++ [StartReg.control.event b unit lba] ++
      [StartReg.sectorCount.event b unit lba] ++ [StartReg.lbaLow.event b unit lba] ++
      [StartReg.lbaMid.event b unit lba] ++ [StartReg.lbaHigh.event b unit lba] ++
      [StartReg.driveHead.event b unit lba] := by simp [registerWrites]
  rw [hevents]
  calc execTimes (.start unit writing lba payload) 6 _
    _ = execTimes (.start unit writing lba payload) 5 _ := execTimes_succ (exec_startReg_transferAt h hb .control) 5
    _ = execTimes (.start unit writing lba payload) 4 _ := execTimes_succ (exec_startReg_transferAt h hb .sectorCount) 4
    _ = execTimes (.start unit writing lba payload) 3 _ := execTimes_succ (exec_startReg_transferAt h hb .lbaLow) 3
    _ = execTimes (.start unit writing lba payload) 2 _ := execTimes_succ (exec_startReg_transferAt h hb .lbaMid) 2
    _ = execTimes (.start unit writing lba payload) 1 _ := execTimes_succ (exec_startReg_transferAt h hb .lbaHigh) 1
    _ = _ := (execTimes_one _ _).trans (exec_startReg_transferAt h hb .driveHead)

/-- The command write ends a read START (R144). -/
theorem exec_readCommand_transferAt (h : Ready s) (hb : s.driver.bases = some b) :
    exec (.start unit false lba payload)
        (transferAt s n es as (.start unit false lba payload) .startCommand) =
      .next { afterEvents s (es ++ [commandWrite b false]) as with
        spin := n, xfer := .readPending, result := some ⟨.ok, 0, none⟩ } := by
  rw [exec_startCommand (running_transferAt h _ _ _ _ _) hb, issueCommand_read (s := transferAt s n _ _ _ _) _ hb,
    emit_transferAt, finish_transferAt h]
  rfl

/-- The command write leads a write START to DRQ_WAIT (R144, R145). -/
theorem exec_writeCommand_transferAt (h : Ready s) (hb : s.driver.bases = some b) :
    exec (.start unit true lba payload)
        (transferAt s n es as (.start unit true lba payload) .startCommand) =
      .next (transferAt s n (es ++ [commandWrite b true]) as (.start unit true lba payload) .startDrq) := by
  rw [exec_startCommand (running_transferAt h _ _ _ _ _) hb, issueCommand_write (s := transferAt s n _ _ _ _) _ hb,
    emit_transferAt]
  rfl

theorem exec_startDrq_transferAt (h : Ready s) (hb : s.driver.bases = some b) {st : Byte} {drq : Bool}
    (hst : st.getLsbD 3 = drq) :
    exec (.start unit writing lba payload)
        (transferAt s n es (st.setWidth 32 :: rest) (.start unit writing lba payload) .startDrq) =
      .next (transferAt s n (es ++ [.in1 (b.cmd + 7) st]) rest (.start unit writing lba payload)
        (if drq then .startPush 0 else .startDrq)) := by
  rw [exec_startDrq (running_transferAt h _ _ _ _ _) hb rfl, recordedAt_transferAt,
    BitVec.setWidth_setWidth_of_le _ (by decide), BitVec.setWidth_eq, BitVec.getLsbD_setWidth, ← hst]
  rfl

/-- DRQ_WAIT reads on until DRQ is set (R142). -/
theorem execTimes_startDrq (h : Ready s) (hb : s.driver.bases = some b) {fails : List Byte} {last : Byte}
    (hfails : ∀ st ∈ fails, st.getLsbD 3 = false) (hlast : last.getLsbD 3 = true) :
    execTimes (.start unit writing lba payload) (readEvents (b.cmd + 7) (fails ++ [last])).length
        (transferAt s n es (byteAnswers (fails ++ [last]) ++ rest) (.start unit writing lba payload) .startDrq) =
      .next (transferAt s n (es ++ readEvents (b.cmd + 7) (fails ++ [last])) rest (.start unit writing lba payload)
        (.startPush 0)) := by
  induction fails generalizing es with
  | nil => exact (execTimes_one _ _).trans (exec_startDrq_transferAt h hb hlast)
  | cons st fails ih =>
    obtain ⟨hst, hfails⟩ := List.forall_mem_cons.1 hfails
    have hrest := ih (es := es ++ [.in1 (b.cmd + 7) st]) hfails
    rw [List.append_assoc] at hrest
    exact (execTimes_succ (exec_startDrq_transferAt h hb hst) _).trans hrest

theorem exec_startPush_transferAt (h : Ready s) (hb : s.driver.bases = some b) (k : Nat) :
    exec (.start unit writing lba payload)
        (transferAt s n es as (.start unit writing lba payload) (.startPush k)) =
      afterPush (.start unit writing lba payload) k
        (transferAt s n (es ++ [pushEvent b payload k]) as (.start unit writing lba payload) (.startPush k)) := by
  rw [exec_startPush (running_transferAt h _ _ _ _ _) hb, emit_transferAt]

/-- The first `k` data words, short of the last (R144). -/
theorem execTimes_startPushes (h : Ready s) (hb : s.driver.bases = some b) {k : Nat} (hk : k < 128) :
    execTimes (.start unit writing lba payload) k
        (transferAt s n es as (.start unit writing lba payload) (.startPush 0)) =
      .next (transferAt s n (es ++ (List.range k).map (pushEvent b payload)) as (.start unit writing lba payload)
        (.startPush k)) := by
  induction k with
  | zero =>
    rw [List.range_zero, List.map_nil, List.append_nil]
    rfl
  | succ k ih =>
    rw [execTimes_add (ih (by omega)) 1, execTimes_one, exec_startPush_transferAt h hb, List.range_succ,
      List.map_append, ← List.append_assoc]
    exact if_pos hk

/-- The 128 data words end a write START (R144, R145). -/
theorem execTimes_pushEvents (h : Ready s) (hb : s.driver.bases = some b) :
    execTimes (.start unit writing lba payload) (pushEvents b payload).length
        (transferAt s n es as (.start unit writing lba payload) (.startPush 0)) =
      .next { afterEvents s (es ++ pushEvents b payload) as with
        spin := n, xfer := .writePending, result := some ⟨.ok, 0, none⟩ } := by
  have hevents : pushEvents b payload = (List.range 127).map (pushEvent b payload) ++ [pushEvent b payload 127] := by
    rw [← List.map_singleton, ← List.map_append, ← List.range_succ]
    rfl
  have hlength : (pushEvents b payload).length = 127 + 1 := by simp [pushEvents]
  rw [hlength, execTimes_add (execTimes_startPushes h hb (by decide)) 1, execTimes_one, exec_startPush_transferAt h hb,
    hevents, ← List.append_assoc]
  exact finish_transferAt h 0 none .writePending _ _ _ _ _

end Start

/-- Settles O27: the wait and the register writes, then for a read the command write, for a write the command write,
DRQ_WAIT and the data words. -/
theorem startCompletes : Obligations.StartCompletes := by
  intro s unit writing lba payload b fails last drqFails drqLast rest h hb hp hx hlen hfails hlast hdrqFails hdrqLast ha
    es
  have hc := ataCheck_of_session (installed_of_bases hb) hp hx
  have hpayload : payloadOk writing payload = true := beq_iff_eq.2 hlen
  rw [byteAnswers_append, List.append_assoc] at ha
  have hwait := execTimes_startWait (unit := unit) (lba := lba) h hb hc hpayload hfails hlast ha
  have hregs := (execTimes_append hwait (registerWrites b unit lba)).trans (execTimes_startRegs h hb)
  cases writing with
  | false =>
    have hes : es = waitEvents s.params.warnInterval b.cmd last 0 fails ++ registerWrites b unit lba ++
        [commandWrite b false] := by
      simp [es, startWrites_eq]
    rw [hes, execTimes_append hregs]
    exact (execTimes_one _ _).trans (exec_readCommand_transferAt h hb)
  | true =>
    have hes : es = waitEvents s.params.warnInterval b.cmd last 0 fails ++ registerWrites b unit lba ++
        [commandWrite b true] ++ readEvents (b.cmd + 7) (drqFails ++ [drqLast]) ++ pushEvents b payload := by
      simp [es, startWrites_eq]
    have hcommand := (execTimes_append hregs [commandWrite b true]).trans
      ((execTimes_one _ _).trans (exec_writeCommand_transferAt h hb))
    have hdrq := (execTimes_append hcommand (readEvents (b.cmd + 7) (drqFails ++ [drqLast]))).trans
      (execTimes_startDrq h hb hdrqFails hdrqLast)
    rw [hes, execTimes_append hdrq]
    exact execTimes_pushEvents h hb

end Sys2Proof.Machine
end

section
/-! ## The frames of HAS_INTR and CLEAR_INTR (O59) -/

namespace Sys2Proof.Machine

section InterruptFrames

variable {k : Pos} {s t : State}

/-- Nothing but the sequencer, the history, the result latch, the request id and the oracle's answers may differ. -/
def WritesRead (s t : State) : Prop :=
  t = { s with seq := t.seq, trace := t.trace, result := t.result, reqId := t.reqId, answers := t.answers }

/-- The same, but for the halt of a fatal error (R206). -/
def WritesReadOrHalts (s t : State) : Prop :=
  t = { s with
    halted := t.halted
    fatal := t.fatal
    seq := t.seq
    trace := t.trace
    result := t.result
    reqId := t.reqId
    answers := t.answers }

/-- What stays, field by field. -/
theorem WritesReadOrHalts.fields (h : WritesReadOrHalts s t) :
    t.params = s.params ∧ t.driver = s.driver ∧ t.present = s.present ∧ t.xfer = s.xfer ∧ t.spin = s.spin ∧
      t.cfgAddr = s.cfgAddr ∧ t.requests = s.requests := by
  rw [h]
  exact ⟨rfl, rfl, rfl, rfl, rfl, rfl, rfl⟩

theorem WritesRead.writesReadOrHalts (h : WritesRead s t) : WritesReadOrHalts s t := by
  rw [WritesReadOrHalts, h]

theorem WritesRead.halt_eq (h : WritesRead s t) : t.halted = s.halted ∧ t.fatal = s.fatal := by
  rw [h]
  exact ⟨rfl, rfl⟩

/-- A request that starts its run with the next id keeps the frame of its run. -/
theorem WritesRead.of_accepted (h : WritesRead s.nextId t) : WritesRead s t := by
  rw [WritesRead, h]
  rfl

theorem WritesReadOrHalts.of_accepted (h : WritesReadOrHalts s.nextId t) : WritesReadOrHalts s t := by
  rw [WritesReadOrHalts, h]
  rfl

theorem hasIntrGo_writesRead : Post (WritesRead s) (hasIntrGo k s) := by
  refine post_withNative fun b bm _ => ?_
  cases k with
  | hasIntrRead => exact post_finish.2 rfl
  | _ => exact post_fault _

theorem execHasIntr_writesRead : Post (WritesRead s) (execHasIntr s) := by
  refine post_onRequest (fun _ _ => ?_) (fun _ _ => hasIntrGo_writesRead) rfl
  split
  · exact post_finish.2 rfl
  · exact hasIntrGo_writesRead.mono fun _ => WritesRead.of_accepted

theorem clearIntrGo_writesReadOrHalts : Post (WritesReadOrHalts s) (clearIntrGo k s) := by
  cases k with
  | clearStatus1 => exact post_withBases fun _ _ => post_goto.2 rfl
  | clearStatus2 => exact post_withBases fun _ _ => post_goto.2 rfl
  | clearBmRead =>
    refine post_withNative fun b bm _ => ?_
    dsimp only
    split
    · exact post_raise (fun _ => rfl) fun _ => rfl
    · exact post_goto.2 rfl
  | clearBmWrite byte => exact post_withNative fun _ _ _ => post_goto.2 rfl
  | clearEoi => exact post_withBases fun _ _ => post_finish.2 rfl
  | _ => exact post_fault _

theorem execClearIntr_writesReadOrHalts : Post (WritesReadOrHalts s) (execClearIntr s) :=
  post_onRequest (fun _ _ => clearIntrGo_writesReadOrHalts.mono fun _ => WritesReadOrHalts.of_accepted)
    (fun _ _ => clearIntrGo_writesReadOrHalts) rfl

end InterruptFrames

/-- Settles O59: both requests write what a read writes, and only CLEAR_INTR's fatal error writes the halt. -/
theorem interruptRequestsFrame : Obligations.InterruptRequestsFrame := by
  intro s t i hi he
  suffices h : WritesReadOrHalts s t ∧ (i = .hasIntr → t.halted = s.halted ∧ t.fatal = s.fatal) by
    obtain ⟨hframe, hhalt⟩ := h
    obtain ⟨hparams, hdriver, hpresent, hxfer, hspin, haddr, hrequests⟩ := hframe.fields
    exact ⟨hparams, hdriver, hpresent, hxfer, hspin, haddr, hrequests, hhalt⟩
  obtain rfl | rfl := hi
  · have hread := post_iff.1 execHasIntr_writesRead t he
    exact ⟨hread.writesReadOrHalts, fun _ => hread.halt_eq⟩
  · exact ⟨post_iff.1 execClearIntr_writesReadOrHalts t he, nofun⟩

end Sys2Proof.Machine
end

section
/-! ## HAS_INTR and CLEAR_INTR, event by event (O40, O41, O42, O43)

A CLEAR_INTR that `s` accepted stands at `clearingAt s es as k` after the events `es`; one rule per event, and the runs
of R172 chain them. -/

namespace Sys2Proof.Machine

section HasIntr

variable {s : State} {b : Bases} {bm : Port} {a : Word} {rest : List Word}

theorem bases_of_legacy (hd : s.driver = .legacy b) : s.driver.bases = some b := congrArg Driver.bases hd

theorem bases_of_native (hd : s.driver = .native b bm) : s.driver.bases = some b := congrArg Driver.bases hd

theorem driverCheck_of_none (hd : s.driver = .none) : driverCheck s = some .noDriver := by
  simp [driverCheck, refuseUnless, hd]

theorem driverCheck_of_bases (hb : s.driver.bases = some b) : driverCheck s = none :=
  refuseUnless_eq_none.2 ⟨decide_eq_true (installed_of_bases hb), rfl⟩

theorem exec_hasIntr_refused (h : Ready s) (hd : s.driver = .none) : exec .hasIntr s = .refused .noDriver := by
  rw [exec, execHasIntr, onRequest_refused h (driverCheck_of_none hd)]

theorem exec_hasIntr_legacy (h : Ready s) (hd : s.driver = .legacy b) :
    exec .hasIntr s = .next (answered s ⟨.ok, 1, none⟩) := by
  have hlegacy : s.nextId.variant = .legacy := congrArg Driver.variant hd
  rw [exec, execHasIntr, onRequest_ready h (driverCheck_of_bases (bases_of_legacy hd)), if_pos hlegacy,
    finish_of_ready h]

/-- HAS_INTR's value for NATIVE, bit 2 of the byte read, as a number (R81, R171). -/
theorem pendingValue_eq (a : Word) :
    (if bmPending (a.setWidth 8) then 1 else 0 : Word) = BitVec.ofNat 32 (a.toNat / 4 % 2) := by
  have hbit : bmPending (a.setWidth 8) = decide (a.toNat / 4 % 2 = 1) := by
    rw [bmPending, statusBit, BitVec.getLsbD_setWidth, BitVec.getLsbD, Nat.testBit_eq_decide_div_mod_eq]
    rfl
  rw [hbit]
  obtain hv | hv := Nat.mod_two_eq_zero_or_one (a.toNat / 4)
  · rw [hv]; rfl
  · rw [hv]; rfl

/-- HAS_INTR's busmaster read answers the pending bit (R171). -/
theorem hasIntrGo_read (hd : s.driver = .native b bm) (ha : s.answers = a :: rest) :
    hasIntrGo .hasIntrRead s =
      finish (BitVec.ofNat 32 (a.toNat / 4 % 2)) none (recorded s [.in1 (bm + 2) (a.setWidth 8)] rest) := by
  rw [hasIntrGo, withNative_eq hd, in1_of_word ha, afterIn1_of_word ha, pendingValue_eq]
  rfl

theorem exec_hasIntr_native (h : Ready s) (hd : s.driver = .native b bm) (ha : s.answers = a :: rest) :
    exec .hasIntr s = .next
      { afterEvents s [.in1 (bm + 2) (a.setWidth 8)] rest with
        result := some ⟨.ok, BitVec.ofNat 32 (a.toNat / 4 % 2), none⟩ } := by
  have hnative : s.nextId.variant ≠ .legacy := by simp [State.variant, hd, Driver.variant]
  rw [exec, execHasIntr, onRequest_ready h (driverCheck_of_bases (bases_of_native hd)), if_neg hnative,
    hasIntrGo_read (s := s.nextId) hd ha, finish, ← h.2]
  rfl

end HasIntr

section ClearIntr

variable {s : State} {b : Bases} {bm : Port} {a : Word} {as : List Word} {es : List Event} {k k' : Pos}

/-- A state inside a CLEAR_INTR that `s` accepted: at position `k`, after the events `es`, with the oracle's answers
`as` left. -/
def clearingAt (s : State) (es : List Event) (as : List Word) (k : Pos) : State :=
  transferAt s s.spin es as .clearIntr k

theorem exec_clearIntr_refused (h : Ready s) (hd : s.driver = .none) : exec .clearIntr s = .refused .noDriver := by
  rw [exec, execClearIntr, onRequest_refused h (driverCheck_of_none hd)]

theorem exec_clearIntr_of_running (h : Running .clearIntr k s) : exec .clearIntr s = clearIntrGo k s := by
  rw [exec, execClearIntr, onRequest_running h]

theorem exec_clearingAt (h : Ready s) :
    exec .clearIntr (clearingAt s es as k) = clearIntrGo k (clearingAt s es as k) :=
  exec_clearIntr_of_running (running_transferAt h _ _ _ _ _)

theorem goto_recorded_clearingAt {es' : List Event} {as' : List Word} :
    goto .clearIntr k' (recorded (clearingAt s es as k) es' as') = .next (clearingAt s (es ++ es') as' k') := by
  rw [clearingAt, clearingAt, ← recordedAt_transferAt]
  rfl

/-- A ready block with a driver accepts CLEAR_INTR with its first status read (R172). -/
theorem exec_clearIntr_accept (h : Ready s) (hb : s.driver.bases = some b) (ha : s.answers = a :: as) :
    exec .clearIntr s = .next (clearingAt s [.in1 (b.cmd + 7) (a.setWidth 8)] as .clearStatus2) := by
  rw [exec, execClearIntr, onRequest_ready h (driverCheck_of_bases hb), clearIntrGo, withBases_eq (s := s.nextId) hb,
    afterIn1_of_word (s := s.nextId) ha]
  rfl

theorem exec_clearStatus2 (h : Ready s) (hb : s.driver.bases = some b) :
    exec .clearIntr (clearingAt s es (a :: as) .clearStatus2) =
      .next (clearingAt s (es ++ [.in1 (b.cmd + 7) (a.setWidth 8)]) as (afterStatusReads s.driver)) := by
  rw [exec_clearingAt h, clearIntrGo, withBases_eq (s := clearingAt _ _ _ _) hb, afterIn1_of_word (rest := as) rfl]
  exact goto_recorded_clearingAt

/-- The part of CLEAR_INTR both variants share: two status reads, whose values have no effect (R172). -/
theorem exec_statusReads {a₁ a₂ : Word} (h : Ready s) (hb : s.driver.bases = some b)
    (ha : s.answers = a₁ :: a₂ :: as) (hk : afterStatusReads s.driver = k) :
    ∃ s₁, exec .clearIntr s = .next s₁ ∧ exec .clearIntr s₁ =
      .next (clearingAt s [.in1 (b.cmd + 7) (a₁.setWidth 8), .in1 (b.cmd + 7) (a₂.setWidth 8)] as k) := by
  rw [← hk]
  exact ⟨_, exec_clearIntr_accept h hb ha, exec_clearStatus2 h hb⟩

theorem bmError_of_word (a : Word) : bmError (a.setWidth 8) = a.getLsbD 1 := by
  rw [bmError, statusBit, BitVec.getLsbD_setWidth]
  rfl

/-- The busmaster read decides by bit 1 of its byte: the fatal error, or the write-back (R173, R207). -/
theorem clearIntrGo_bmRead (hd : s.driver = .native b bm) (ha : s.answers = a :: as) :
    clearIntrGo .clearBmRead s =
      if a.getLsbD 1 then
        raise .diskMediaFatal (BitVec.ofNat 32 (a.toNat % 256)) (recorded s [.in1 (bm + 2) (a.setWidth 8)] as)
      else goto .clearIntr (.clearBmWrite (a.setWidth 8)) (recorded s [.in1 (bm + 2) (a.setWidth 8)] as) := by
  have hvalue : (a.setWidth 8).setWidth 32 = BitVec.ofNat 32 (a.toNat % 256) :=
    BitVec.eq_of_toNat_eq (by rw [BitVec.toNat_setWidth, BitVec.toNat_setWidth, BitVec.toNat_ofNat])
  rw [← bmError_of_word, ← hvalue, clearIntrGo, withNative_eq hd, in1_of_word ha, afterIn1_of_word ha]
  rfl

theorem exec_clearBmRead_ok (h : Ready s) (hd : s.driver = .native b bm) (hok : a.getLsbD 1 = false) :
    exec .clearIntr (clearingAt s es (a :: as) .clearBmRead) =
      .next (clearingAt s (es ++ [.in1 (bm + 2) (a.setWidth 8)]) as (.clearBmWrite (a.setWidth 8))) := by
  rw [exec_clearingAt h, clearIntrGo_bmRead (s := clearingAt _ _ _ _) hd rfl, if_neg (Bool.eq_false_iff.1 hok)]
  exact goto_recorded_clearingAt

/-- The fatal error ends CLEAR_INTR and halts the block (R206, R207). -/
theorem exec_clearBmRead_error (h : Ready s) (hd : s.driver = .native b bm) (herr : a.getLsbD 1 = true) :
    exec .clearIntr (clearingAt s es (a :: as) .clearBmRead) = .next
      { afterEvents s (es ++ [.in1 (bm + 2) (a.setWidth 8)]) as with
        halted := true
        fatal := some .diskMediaFatal
        result := some ⟨.diskMediaFatal, BitVec.ofNat 32 (a.toNat % 256), none⟩ } := by
  rw [exec_clearingAt h, clearIntrGo_bmRead (s := clearingAt _ _ _ _) hd rfl, if_pos herr, raise_of_fatal rfl,
    afterEvents, ← h.2, ← trace_append_event]
  rfl

theorem exec_clearBmWrite (h : Ready s) (hd : s.driver = .native b bm) (byte : Byte) :
    exec .clearIntr (clearingAt s es as (.clearBmWrite byte)) =
      .next (clearingAt s (es ++ [.out1 (bm + 2) byte]) as .clearEoi) := by
  rw [exec_clearingAt h, clearIntrGo, withNative_eq (s := clearingAt _ _ _ _) hd, emit_eq_recorded]
  exact goto_recorded_clearingAt

/-- The end-of-interrupt call ends CLEAR_INTR (R174). -/
theorem exec_clearEoi {irq : Word} (h : Ready s) (hb : s.driver.bases = some b) (hirq : eoiIrq s.driver = irq) :
    exec .clearIntr (clearingAt s es as .clearEoi) = .next
      { afterEvents s (es ++ [.eoi irq]) as with result := some ⟨.ok, 0, none⟩ } := by
  rw [← hirq, exec_clearingAt h, clearIntrGo, withBases_eq (s := clearingAt _ _ _ _) hb, clearingAt, emit_transferAt]
  exact finish_transferAt h 0 none s.xfer s.spin _ as .clearIntr .clearEoi

end ClearIntr

/-- Settles O40: the driver check, LEGACY's constant answer, and NATIVE's busmaster read. -/
theorem hasIntrAnswers : Obligations.HasIntrAnswers :=
  ⟨fun _ => exec_hasIntr_refused, fun _ _ h hd => ⟨_, exec_hasIntr_legacy h hd, rfl⟩,
    fun _ _ _ _ _ => exec_hasIntr_native⟩

/-- Settles O41: two status reads lead a LEGACY driver to the EOI. -/
theorem legacyClearIntrCompletes : Obligations.LegacyClearIntrCompletes := by
  refine ⟨fun _ => exec_clearIntr_refused, fun s b a₁ a₂ rest h hd ha => ?_⟩
  have hb := bases_of_legacy hd
  obtain ⟨s₁, haccept, hstatus⟩ := exec_statusReads h hb ha (congrArg afterStatusReads hd)
  exact ⟨s₁, _, haccept, hstatus, exec_clearEoi h hb (congrArg eoiIrq hd)⟩

/-- Settles O42: two status reads lead a NATIVE driver to the busmaster read, whose byte is written back before the
EOI. -/
theorem nativeClearIntrCompletes : Obligations.NativeClearIntrCompletes := by
  intro s b bm a₁ a₂ a₃ rest h hd ha hok
  have hb := bases_of_native hd
  obtain ⟨s₁, haccept, hstatus⟩ := exec_statusReads h hb ha (congrArg afterStatusReads hd)
  exact ⟨s₁, _, _, _, haccept, hstatus, exec_clearBmRead_ok h hd hok, exec_clearBmWrite h hd _,
    exec_clearEoi h hb (congrArg eoiIrq hd)⟩

/-- Settles O43: the busmaster read after the two status reads raises the fatal error. -/
theorem nativeClearIntrFailsFatally : Obligations.NativeClearIntrFailsFatally := by
  intro s b bm a₁ a₂ a₃ rest h hd ha herr
  obtain ⟨s₁, haccept, hstatus⟩ := exec_statusReads h (bases_of_native hd) ha (congrArg afterStatusReads hd)
  exact ⟨s₁, _, haccept, hstatus, exec_clearBmRead_error h hd herr⟩

end Sys2Proof.Machine
end

section
/-! ## EOI is CLEAR_INTR's alone, and ends it (O44)

Every part of every request but CLEAR_INTR's last event records nothing or one port access or diagnostic
(`RecordsNoEoi`); that last event is the one way CLEAR_INTR succeeds. -/

namespace Sys2Proof.Machine

section Records

/-! ### What a part of a step records -/

variable {s u t : State}

/-- Since `s`, the state `t` has recorded nothing, or one event of the latest request that is no EOI. -/
def RecordsNoEoi (s t : State) : Prop :=
  t.trace = s.trace ∨ ∃ e, t.trace = s.trace ++ [⟨t.reqId, e⟩] ∧ ∀ irq, e ≠ .eoi irq

theorem RecordsNoEoi.refl (s : State) : RecordsNoEoi s s := .inl rfl

theorem RecordsNoEoi.event_ne_eoi (h : RecordsNoEoi s t) {x : Entry} (hx : t.trace = s.trace ++ [x]) (irq : Word) :
    x.event ≠ .eoi irq := by
  obtain hsame | ⟨e, he, hne⟩ := h
  · simp [hsame] at hx
  · obtain rfl : x = ⟨t.reqId, e⟩ := by simpa [he, eq_comm] using hx
    exact hne irq

theorem emit_recordsNoEoi {e : Event} (h : ∀ irq, e ≠ .eoi irq) : RecordsNoEoi s (s.emit e) := .inr ⟨e, rfl, h⟩

theorem afterIn1_recordsNoEoi {port : Port} : RecordsNoEoi s (s.afterIn1 port) := emit_recordsNoEoi nofun

theorem afterIn4_recordsNoEoi {port : Port} : RecordsNoEoi s (s.afterIn4 port) := emit_recordsNoEoi nofun

theorem openConfig_recordsNoEoi {a : Word} : RecordsNoEoi s (openConfig a s) := emit_recordsNoEoi nofun

theorem raise_recordsNoEoi {e : Status} {v : Word} (h : RecordsNoEoi s u) : Post (RecordsNoEoi s) (raise e v u) :=
  post_raise (fun _ => h) fun _ => h

theorem configRead_recordsNoEoi {i : Instr} {tag : Word} {reg : BitVec 8} {at_ : CfgPhase → Pos}
    {done : Word → State → Out} {p : CfgPhase} (hdone : ∀ v, Post (RecordsNoEoi s) (done v (closeConfig s))) :
    Post (RecordsNoEoi s) (configRead i tag reg at_ done p s) :=
  post_configRead (fun _ => openConfig_recordsNoEoi) (fun _ _ => afterIn4_recordsNoEoi) fun v _ => hdone v

theorem statusWait_recordsNoEoi {i : Instr} {b : Bases} {at_ : WaitPhase → Pos} {done : Byte → Bool}
    {exit : Byte → State → Out} {p : WaitPhase}
    (hexit : ∀ st u, RecordsNoEoi s u → Post (RecordsNoEoi s) (exit st u)) :
    Post (RecordsNoEoi s) (statusWait i b at_ done exit p s) :=
  post_statusWait (fun st => hexit st _ afterIn1_recordsNoEoi) (fun _ => afterIn1_recordsNoEoi)
    (emit_recordsNoEoi nofun)

theorem onRequest_recordsNoEoi {i : Instr} {check : State → Option Refusal} {start : State → Out}
    {go : Pos → State → Out} (hstart : ∀ u, Post (RecordsNoEoi u) (start u))
    (hgo : ∀ k, Post (RecordsNoEoi s) (go k s)) : Post (RecordsNoEoi s) (onRequest i check start go s) :=
  post_onRequest (fun _ _ => hstart s.nextId) (fun k _ => hgo k) (.refl s)

/-- TAG_MAKE, TAG_SPLIT and BAR_DECODE record nothing. -/
theorem pureRequest_recordsNoEoi {i : Instr} {check : State → Option Refusal} {v : Word} :
    Post (RecordsNoEoi s) (onRequest i check (finish v none) noPosition s) :=
  onRequest_recordsNoEoi (fun u => post_finish.2 (.refl u)) fun _ => post_fault _

end Records

section OtherRequests

/-! ### The requests other than CLEAR_INTR -/

variable {s u : State} {k : Pos}

theorem cfgReadGo_recordsNoEoi {tagf : BitVec 16} {reg : BitVec 8} {width : BitVec 3} :
    Post (RecordsNoEoi s) (cfgReadGo tagf reg width k s) := by
  cases k with
  | cfgRead p => exact configRead_recordsNoEoi fun _ => post_finish.2 openConfig_recordsNoEoi
  | _ => exact post_fault _

theorem cfgWriteGo_recordsNoEoi {tagf : BitVec 16} {reg : BitVec 8} {val : Word} :
    Post (RecordsNoEoi s) (cfgWriteGo tagf reg val k s) := by
  cases k with
  | cfgWrite p =>
    cases p with
    | address => exact post_goto.2 openConfig_recordsNoEoi
    | data => exact post_goto.2 (emit_recordsNoEoi nofun)
    | close => exact post_finish.2 openConfig_recordsNoEoi
  | _ => exact post_fault _

theorem endProbe_recordsNoEoi (h : RecordsNoEoi s u) (present : Bool) :
    Post (RecordsNoEoi s) (endProbe present u) := by
  cases present with
  | true => exact post_finish.2 h
  | false => exact raise_recordsNoEoi h

theorem afterPoll_recordsNoEoi {i : Instr} {n : Nat} {r : Byte} (h : RecordsNoEoi s u) :
    Post (RecordsNoEoi s) (afterPoll i n r u) := by
  unfold afterPoll
  split
  · exact endProbe_recordsNoEoi h _
  · split
    · exact post_goto.2 h
    · exact endProbe_recordsNoEoi h _

theorem probeGo_recordsNoEoi {i : Instr} : Post (RecordsNoEoi s) (probeGo i k s) := by
  refine post_withBases fun b _ => ?_
  cases k with
  | probeWait p => exact statusWait_recordsNoEoi fun _ _ hu => post_goto.2 hu
  | probePoll n => exact afterPoll_recordsNoEoi afterIn1_recordsNoEoi
  | _ => exact post_fault _

theorem attachGo_recordsNoEoi {vendor device tagf : BitVec 16} :
    Post (RecordsNoEoi s) (attachGo vendor device tagf k s) := by
  unfold attachGo
  split
  · next n p =>
    refine configRead_recordsNoEoi fun v => ?_
    cases n <;> exact post_goto.2 (openConfig_recordsNoEoi (a := 0))
  · exact probeGo_recordsNoEoi

theorem attachStart_recordsNoEoi {vendor device tagf : BitVec 16} :
    Post (RecordsNoEoi s) (attachStart vendor device tagf s) := by
  unfold attachStart
  split
  · exact raise_recordsNoEoi (.refl s)
  · next handler _ =>
    split
    · exact raise_recordsNoEoi (.refl s)
    · cases handler with
      | legacy => exact attachGo_recordsNoEoi (s := (s.setDriver legacyDriver).setSpin 0) (k := .probeWait .read)
      | native => exact attachGo_recordsNoEoi (k := .attachCfg .irq .address)

theorem issueCommand_recordsNoEoi {i : Instr} {writing : Bool} :
    Post (RecordsNoEoi s) (issueCommand i writing s) := by
  refine post_withBases fun b _ => ?_
  cases writing with
  | true => exact post_goto.2 (emit_recordsNoEoi nofun)
  | false => exact post_finish.2 (emit_recordsNoEoi nofun)

theorem afterPush_recordsNoEoi {i : Instr} {n : Nat} (h : RecordsNoEoi s u) :
    Post (RecordsNoEoi s) (afterPush i n u) := by
  unfold afterPush
  split
  · exact post_goto.2 h
  · exact post_finish.2 h

theorem startReg_event_ne_eoi (b : Bases) (unit : BitVec 1) (lba : BitVec 28) (r : StartReg) (irq : Word) :
    r.event b unit lba ≠ .eoi irq := by
  cases r <;> exact nofun

theorem startGo_recordsNoEoi {unit : BitVec 1} {writing : Bool} {lba : BitVec 28} {payload : List Byte} :
    Post (RecordsNoEoi s) (startGo unit writing lba payload k s) := by
  refine post_withBases fun b _ => ?_
  cases k with
  | startWait p => exact statusWait_recordsNoEoi fun _ _ hu => post_goto.2 hu
  | startReg r => exact post_goto.2 (emit_recordsNoEoi (startReg_event_ne_eoi b unit lba r))
  | startCommand => exact issueCommand_recordsNoEoi
  | startDrq => exact post_goto.2 afterIn1_recordsNoEoi
  | startPush n => exact afterPush_recordsNoEoi (emit_recordsNoEoi nofun)
  | _ => exact post_fault _

theorem afterCheckedWait_recordsNoEoi {i : Instr} {st : Byte} (h : RecordsNoEoi s u) :
    Post (RecordsNoEoi s) (afterCheckedWait i st u) := by
  unfold afterCheckedWait
  split
  · exact post_goto.2 h
  · exact raise_recordsNoEoi (u := u.setXfer .idle) h

theorem afterPull_recordsNoEoi {i : Instr} {got : List Word} (h : RecordsNoEoi s u) :
    Post (RecordsNoEoi s) (afterPull i got u) := by
  unfold afterPull
  split
  · exact post_goto.2 h
  · exact post_finish.2 h

theorem completeGo_recordsNoEoi {writing : Bool} : Post (RecordsNoEoi s) (completeGo writing k s) := by
  refine post_withBases fun b _ => ?_
  cases k with
  | completeWait p => exact statusWait_recordsNoEoi fun _ _ hu => afterCheckedWait_recordsNoEoi hu
  | completePull got => exact afterPull_recordsNoEoi afterIn4_recordsNoEoi
  | _ => exact post_fault _

theorem hasIntrGo_recordsNoEoi : Post (RecordsNoEoi s) (hasIntrGo k s) := by
  refine post_withNative fun b bm _ => ?_
  cases k with
  | hasIntrRead => exact post_finish.2 afterIn1_recordsNoEoi
  | _ => exact post_fault _

theorem deviceCommand_recordsNoEoi {writing : Bool} : Post (RecordsNoEoi s) (deviceCommand writing s) :=
  post_deviceCommand (fun _ _ _ _ => issueCommand_recordsNoEoi) (.refl s)

/-- No request but CLEAR_INTR records an EOI (R174). -/
theorem exec_recordsNoEoi {i : Instr} (hi : i ≠ .clearIntr) : Post (RecordsNoEoi s) (exec i s) := by
  unfold exec
  cases i with
  | clearIntr => exact absurd rfl hi
  | cfgRead tagf reg width =>
    exact onRequest_recordsNoEoi (fun _ => cfgReadGo_recordsNoEoi) fun _ => cfgReadGo_recordsNoEoi
  | cfgWrite tagf reg val =>
    refine onRequest_recordsNoEoi (fun u => ?_) fun _ => cfgWriteGo_recordsNoEoi
    split
    · exact raise_recordsNoEoi (.refl u)
    · exact cfgWriteGo_recordsNoEoi
  | tagMake bus dev fn => exact pureRequest_recordsNoEoi
  | tagSplit tag => exact pureRequest_recordsNoEoi
  | barDecode raw => exact pureRequest_recordsNoEoi
  | attach vendor device tagf =>
    exact onRequest_recordsNoEoi (fun _ => attachStart_recordsNoEoi) fun _ => attachGo_recordsNoEoi
  | start unit writing lba payload =>
    exact onRequest_recordsNoEoi (fun u => startGo_recordsNoEoi (s := u.setSpin 0)) fun _ => startGo_recordsNoEoi
  | complete writing =>
    refine onRequest_recordsNoEoi (fun u => ?_) fun _ => completeGo_recordsNoEoi
    split
    · exact post_finish.2 (.refl u)
    · exact completeGo_recordsNoEoi (s := u.setSpin 0)
  | hasIntr =>
    refine onRequest_recordsNoEoi (fun u => ?_) fun _ => hasIntrGo_recordsNoEoi
    split
    · exact post_finish.2 (.refl u)
    · exact hasIntrGo_recordsNoEoi
  | ataCmdRead => exact deviceCommand_recordsNoEoi
  | ataCmdWrite => exact deviceCommand_recordsNoEoi

end OtherRequests

section ClearIntr

/-! ### CLEAR_INTR -/

variable {s t : State} {k : Pos}

/-- CLEAR_INTR ended OK, and its last event is an EOI. -/
def EndsWithEoi (s t : State) : Prop :=
  t.seq = .idle ∧ t.result = some ⟨.ok, 0, none⟩ ∧ ∃ irq, t.trace = s.trace ++ [⟨t.reqId, .eoi irq⟩]

/-- A step that records no EOI, and that ends no request but with the fatal error of R207. -/
def RunsOrFails (s t : State) : Prop :=
  RecordsNoEoi s t ∧ (t.seq = .idle → ∃ v, t.result = some ⟨.diskMediaFatal, v, none⟩)

/-- Going on to a further position ends nothing. -/
theorem goto_runsOrFails {i : Instr} {u : State} (h : RecordsNoEoi s u) : Post (RunsOrFails s) (goto i k u) :=
  ⟨h, nofun⟩

theorem clearIntrGo_runsOrFails (hk : k ≠ .clearEoi) : Post (RunsOrFails s) (clearIntrGo k s) := by
  cases k with
  | clearStatus1 => exact post_withBases fun _ _ => goto_runsOrFails afterIn1_recordsNoEoi
  | clearStatus2 => exact post_withBases fun _ _ => goto_runsOrFails afterIn1_recordsNoEoi
  | clearBmRead =>
    refine post_withNative fun b bm _ => ?_
    dsimp only
    split
    · rw [raise_of_fatal rfl]
      exact post_next.2 ⟨afterIn1_recordsNoEoi, fun _ => ⟨_, rfl⟩⟩
    · exact goto_runsOrFails afterIn1_recordsNoEoi
  | clearBmWrite byte => exact post_withNative fun _ _ _ => goto_runsOrFails (emit_recordsNoEoi nofun)
  | clearEoi => exact absurd rfl hk
  | _ => exact post_fault _

theorem clearIntrGo_clearEoi_endsWithEoi : Post (EndsWithEoi s) (clearIntrGo .clearEoi s) :=
  post_withBases fun _ _ => post_finish.2 ⟨rfl, rfl, _, rfl⟩

/-- CLEAR_INTR stands at its last position and ends there with an EOI, or its step is no successful end. -/
theorem execClearIntr_ends :
    Post (fun t => RunsOrFails s t ∨ (s.seq = .run .clearIntr .clearEoi ∧ EndsWithEoi s t)) (execClearIntr s) := by
  refine post_iff.2 fun t ht => ?_
  obtain ⟨-, -, hstart⟩ | ⟨k, ⟨-, hseq⟩, hgo⟩ | ⟨j, k, ⟨-, hseq⟩, -, rfl⟩ := onRequest_eq_next ht
  · exact .inl (post_iff.1 (clearIntrGo_runsOrFails (s := s.nextId) (k := .clearStatus1) nofun) t hstart)
  · by_cases hk : k = .clearEoi
    · subst hk
      exact .inr ⟨hseq, post_iff.1 clearIntrGo_clearEoi_endsWithEoi t hgo⟩
    · exact .inl (post_iff.1 (clearIntrGo_runsOrFails hk) t hgo)
  · exact .inl ⟨.refl t, fun hidle => by cases hseq.symm.trans hidle⟩

/-- An instruction records no EOI, or is CLEAR_INTR ending at its last position. -/
theorem exec_recordsNoEoi_or_ends {i : Instr} :
    Post (fun t => RecordsNoEoi s t ∨ (s.seq = .run .clearIntr .clearEoi ∧ EndsWithEoi s t)) (exec i s) := by
  by_cases hi : i = .clearIntr
  · subst hi
    exact execClearIntr_ends.mono fun t => Or.imp_left fun hruns => hruns.1
  · exact (exec_recordsNoEoi hi).mono fun t => .inl

theorem step_recordsNoEoi_or_ends (hs : step s = .next t) :
    RecordsNoEoi s t ∨ (s.seq = .run .clearIntr .clearEoi ∧ EndsWithEoi s t) := by
  obtain ⟨-, -, rfl⟩ | ⟨r, rs, i, -, -, -, he⟩ | ⟨i, k, -, he⟩ := step_eq_next hs
  · exact .inl (.refl t)
  · exact post_iff.1 (exec_recordsNoEoi_or_ends (s := s.setRequests rs)) t he
  · exact post_iff.1 exec_recordsNoEoi_or_ends t he

/-- Wherever it stands, a request other than START runs as itself (R82). -/
theorem runningInstr_of_not_start {i : Instr} (hi : ∀ unit writing lba payload, i ≠ .start unit writing lba payload)
    (k : Pos) : runningInstr i k = i := by
  unfold runningInstr
  split
  · exact absurd rfl (hi _ _ _ _)
  · rfl

/-- A step of a request other than START is `exec` of it, with the request taken from the host's list where the step
accepts it. -/
theorem exec_of_nextStepOf {i : Instr} (hi : ∀ unit writing lba payload, i ≠ .start unit writing lba payload)
    (h : NextStepOf i s) (hs : step s = .next t) : ∃ rs, exec i (s.setRequests rs) = .next t := by
  obtain ⟨⟨-, hidle⟩, hr, rfl⟩ | ⟨r, rs, j, ⟨-, hidle⟩, hr, hd, he⟩ | ⟨j, k, ⟨-, hrun⟩, he⟩ := step_eq_next hs
  · simp [NextStepOf, hidle, hr] at h
  · obtain rfl : j = i := by simpa [NextStepOf, hidle, hr, hd] using h
    exact ⟨rs, he⟩
  · obtain rfl : j = i := by simpa [NextStepOf, hrun] using h
    rw [runningInstr_of_not_start hi] at he
    exact ⟨s.requests, he⟩

end ClearIntr

/-- Settles O44: no other part of a step records an EOI, and no other part of CLEAR_INTR ends it OK. -/
theorem eoiEndsClearIntr : Obligations.EoiEndsClearIntr := by
  refine ⟨fun s t e irq hs hx he => ?_, fun s t r hnext hs hidle hresult hok => ?_⟩
  · obtain hnone | ⟨hseq, hend, hres, -⟩ := step_recordsNoEoi_or_ends hs
    · exact absurd he (hnone.event_ne_eoi hx irq)
    · exact ⟨hseq, hend, hres⟩
  · obtain ⟨rs, hexec⟩ := exec_of_nextStepOf (i := .clearIntr) nofun hnext hs
    obtain ⟨-, hfails⟩ | ⟨-, -, -, heoi⟩ := post_iff.1 execClearIntr_ends t hexec
    · obtain ⟨v, hv⟩ := hfails hidle
      obtain rfl : (⟨.diskMediaFatal, v, none⟩ : Result) = r := Option.some.inj (hv.symm.trans hresult)
      cases hok
    · exact heoi

end Sys2Proof.Machine
end

section
/-! ## ATTACH of an unknown device (O20) -/

namespace Sys2Proof.Machine

section UnknownDevice

variable {s : State} {vendor device tagf : BitVec 16}

/-- A pair outside the table has no handler (R122). -/
theorem lookupHandler_eq_none {table : List AttachEntry}
    (h : ∀ e ∈ table, ¬ (e.vendor = vendor ∧ e.device = device)) : lookupHandler table vendor device = none := by
  rw [lookupHandler, Option.map_eq_none_iff, List.find?_eq_none]
  simpa using h

/-- A miss in the table is answered before the duplicate check (R122, R202). -/
theorem attachStart_of_unknown (hmiss : lookupHandler s.params.attachTable vendor device = none) :
    attachStart vendor device tagf s = raise .unsupportedDevice 0 s := by
  simp only [attachStart, hmiss]

end UnknownDevice

/-- Settles O20: the lookup finds no handler, and the error it raises is not fatal. -/
theorem attachMissIsIgnored : Obligations.AttachMissIsIgnored := by
  intro s vendor device tagf h hmiss
  have hraise : attachStart vendor device tagf s.nextId = raise .unsupportedDevice 0 s.nextId :=
    attachStart_of_unknown (lookupHandler_eq_none hmiss)
  have hend : (s.nextId.setResult ⟨.unsupportedDevice, 0, none⟩).setSeq .idle =
      answered s ⟨.unsupportedDevice, 0, none⟩ := answered_of_ready h _
  rw [exec_attach_of_ready h, hraise, raise_of_not_fatal rfl, hend]
  exact ⟨_, rfl, rfl⟩

end Sys2Proof.Machine
end

section
/-! ## Which request raises which error (O52)

`MayRaise E s` says what a part of a step does to the result latch; the rules of each request take what `E` must allow,
and `RaisedBy` is the `E` of R200. -/

namespace Sys2Proof.Machine

section ErrorsRaised

variable {E : Status → State → Prop} {s t u : State} {k : Pos}

/-- The result latch is as it was, or holds a success, or an error that `E` allows in the state reached. -/
def MayRaise (E : Status → State → Prop) (s t : State) : Prop :=
  t.result = s.result ∨ ∃ r, t.result = some r ∧ (r.status = .ok ∨ E r.status t)

theorem MayRaise.of_kept (h : t.result = s.result) : MayRaise E s t := .inl h

/-- A result that was not in the latch is a success or an error that `E` allows. -/
theorem MayRaise.status_of_new {r : Result} (h : MayRaise E s t) (hr : t.result = some r) (hnew : s.result ≠ some r) :
    r.status = .ok ∨ E r.status t := by
  obtain hkept | ⟨r', hr', hstatus⟩ := h
  · exact absurd (hkept.symm.trans hr) hnew
  · obtain rfl : r' = r := Option.some.inj (hr'.symm.trans hr)
    exact hstatus

/-! ### The ways a step ends -/

theorem goto_mayRaise {i : Instr} (h : u.result = s.result) : Post (MayRaise E s) (goto i k u) := .of_kept h

theorem finish_mayRaise {v : Word} {data : Option (List Byte)} : Post (MayRaise E s) (finish v data u) :=
  .inr ⟨⟨.ok, v, data⟩, rfl, .inl rfl⟩

theorem raise_mayRaise {e : Status} {v : Word} (h : ∀ t, t.present = u.present → E e t) :
    Post (MayRaise E s) (raise e v u) :=
  post_raise (fun _ => .inr ⟨⟨e, v, none⟩, rfl, .inr (h _ rfl)⟩) fun _ => .inr ⟨⟨e, v, none⟩, rfl, .inr (h _ rfl)⟩

theorem configRead_mayRaise {i : Instr} {tag : Word} {reg : BitVec 8} {at_ : CfgPhase → Pos}
    {done : Word → State → Out} {p : CfgPhase} (hdone : ∀ v, Post (MayRaise E s) (done v (closeConfig s))) :
    Post (MayRaise E s) (configRead i tag reg at_ done p s) :=
  post_configRead (fun _ => .of_kept rfl) (fun _ _ => .of_kept rfl) fun v _ => hdone v

theorem statusWait_mayRaise {i : Instr} {b : Bases} {at_ : WaitPhase → Pos} {done : Byte → Bool}
    {exit : Byte → State → Out} {p : WaitPhase}
    (hexit : ∀ st, Post (MayRaise E s) (exit st (s.afterIn1 (taskReg b 7)))) :
    Post (MayRaise E s) (statusWait i b at_ done exit p s) :=
  post_statusWait hexit (fun _ => .of_kept rfl) (.of_kept rfl)

/-- A request raises what its start and its further events raise. -/
theorem onRequest_mayRaise {i : Instr} {check : State → Option Refusal} {start : State → Out} {go : Pos → State → Out}
    (hstart : Post (MayRaise E s.nextId) (start s.nextId)) (hgo : ∀ k, Running i k s → Post (MayRaise E s) (go k s)) :
    Post (MayRaise E s) (onRequest i check start go s) :=
  post_onRequest (fun _ _ => hstart) hgo (.of_kept rfl)

/-! ### The requests that raise nothing on their way -/

/-- TAG_MAKE, TAG_SPLIT and BAR_DECODE return at once. -/
theorem pureRequest_mayRaise {i : Instr} {check : State → Option Refusal} {v : Word} :
    Post (MayRaise E s) (onRequest i check (finish v none) noPosition s) :=
  onRequest_mayRaise finish_mayRaise fun _ _ => post_fault _

theorem cfgReadGo_mayRaise {tagf : BitVec 16} {reg : BitVec 8} {width : BitVec 3} :
    Post (MayRaise E s) (cfgReadGo tagf reg width k s) := by
  cases k with
  | cfgRead p => exact configRead_mayRaise fun _ => finish_mayRaise
  | _ => exact post_fault _

theorem cfgWriteGo_mayRaise {tagf : BitVec 16} {reg : BitVec 8} {val : Word} :
    Post (MayRaise E s) (cfgWriteGo tagf reg val k s) := by
  cases k with
  | cfgWrite p =>
    cases p with
    | address => exact goto_mayRaise rfl
    | data => exact goto_mayRaise rfl
    | close => exact finish_mayRaise
  | _ => exact post_fault _

theorem issueCommand_mayRaise {i : Instr} {writing : Bool} : Post (MayRaise E s) (issueCommand i writing s) := by
  refine post_withBases fun b _ => ?_
  cases writing with
  | true => exact goto_mayRaise rfl
  | false => exact finish_mayRaise

theorem afterPush_mayRaise {i : Instr} {n : Nat} (h : u.result = s.result) :
    Post (MayRaise E s) (afterPush i n u) := by
  unfold afterPush
  split
  · exact goto_mayRaise h
  · exact finish_mayRaise

theorem startGo_mayRaise {unit : BitVec 1} {writing : Bool} {lba : BitVec 28} {payload : List Byte} :
    Post (MayRaise E s) (startGo unit writing lba payload k s) := by
  refine post_withBases fun b _ => ?_
  cases k with
  | startWait p => exact statusWait_mayRaise fun _ => goto_mayRaise rfl
  | startReg r => exact goto_mayRaise rfl
  | startCommand => exact issueCommand_mayRaise
  | startDrq => exact goto_mayRaise rfl
  | startPush n => exact afterPush_mayRaise rfl
  | _ => exact post_fault _

theorem hasIntrGo_mayRaise : Post (MayRaise E s) (hasIntrGo k s) := by
  refine post_withNative fun b bm _ => ?_
  cases k with
  | hasIntrRead => exact finish_mayRaise
  | _ => exact post_fault _

theorem deviceCommand_mayRaise {writing : Bool} : Post (MayRaise E s) (deviceCommand writing s) :=
  post_deviceCommand (fun _ _ _ _ => issueCommand_mayRaise) (.of_kept rfl)

/-! ### The requests that raise errors on their way -/

/-- PROBE raises DiskAbsent with `present` cleared (R204). -/
theorem endProbe_mayRaise (habsent : ∀ t, t.present = false → E .diskAbsent t) (present : Bool) :
    Post (MayRaise E s) (endProbe present u) := by
  cases present with
  | true => exact finish_mayRaise
  | false => exact raise_mayRaise habsent

theorem afterPoll_mayRaise (habsent : ∀ t, t.present = false → E .diskAbsent t) {i : Instr} {n : Nat} {r : Byte}
    (h : u.result = s.result) : Post (MayRaise E s) (afterPoll i n r u) := by
  unfold afterPoll
  split
  · exact endProbe_mayRaise habsent _
  · split
    · exact goto_mayRaise h
    · exact endProbe_mayRaise habsent _

theorem probeGo_mayRaise (habsent : ∀ t, t.present = false → E .diskAbsent t) {i : Instr} :
    Post (MayRaise E s) (probeGo i k s) := by
  refine post_withBases fun b _ => ?_
  cases k with
  | probeWait p => exact statusWait_mayRaise fun _ => goto_mayRaise rfl
  | probePoll n => exact afterPoll_mayRaise habsent rfl
  | _ => exact post_fault _

theorem attachGo_mayRaise (habsent : ∀ t, t.present = false → E .diskAbsent t) {vendor device tagf : BitVec 16} :
    Post (MayRaise E s) (attachGo vendor device tagf k s) := by
  unfold attachGo
  split
  · next n p =>
    refine configRead_mayRaise fun v => ?_
    cases n <;> exact goto_mayRaise rfl
  · exact probeGo_mayRaise habsent

theorem attachStart_mayRaise (hmiss : ∀ t, E .unsupportedDevice t)
    (hdup : s.driver ≠ .none → ∀ t, E .duplicateDevice t) (habsent : ∀ t, t.present = false → E .diskAbsent t)
    {vendor device tagf : BitVec 16} : Post (MayRaise E s) (attachStart vendor device tagf s) := by
  unfold attachStart
  split
  · exact raise_mayRaise fun t _ => hmiss t
  · next handler _ =>
    split
    · next hd => exact raise_mayRaise fun t _ => hdup hd t
    · cases handler with
      | legacy => exact attachGo_mayRaise habsent (s := (s.setDriver legacyDriver).setSpin 0) (k := .probeWait .read)
      | native => exact attachGo_mayRaise habsent (k := .attachCfg .irq .address)

theorem afterCheckedWait_mayRaise (hmedia : ∀ t, E .diskMediaError t) {i : Instr} {st : Byte}
    (h : u.result = s.result) : Post (MayRaise E s) (afterCheckedWait i st u) := by
  unfold afterCheckedWait
  split
  · exact goto_mayRaise h
  · exact raise_mayRaise fun t _ => hmedia t

theorem afterPull_mayRaise {i : Instr} {got : List Word} (h : u.result = s.result) :
    Post (MayRaise E s) (afterPull i got u) := by
  unfold afterPull
  split
  · exact goto_mayRaise h
  · exact finish_mayRaise

theorem completeGo_mayRaise (hmedia : ∀ t, E .diskMediaError t) {writing : Bool} :
    Post (MayRaise E s) (completeGo writing k s) := by
  refine post_withBases fun b _ => ?_
  cases k with
  | completeWait p => exact statusWait_mayRaise fun _ => afterCheckedWait_mayRaise hmedia rfl
  | completePull got => exact afterPull_mayRaise rfl
  | _ => exact post_fault _

/-- CLEAR_INTR raises on the busmaster's status, which NATIVE alone has (R207). -/
theorem clearIntrGo_mayRaise (hfatal : NativeInstalled s → ∀ t, E .diskMediaFatal t) :
    Post (MayRaise E s) (clearIntrGo k s) := by
  cases k with
  | clearStatus1 => exact post_withBases fun _ _ => goto_mayRaise rfl
  | clearStatus2 => exact post_withBases fun _ _ => goto_mayRaise rfl
  | clearBmRead =>
    refine post_withNative fun b bm hd => ?_
    dsimp only
    split
    · exact raise_mayRaise fun t _ => hfatal ⟨b, bm, hd⟩ t
    · exact goto_mayRaise rfl
  | clearBmWrite byte => exact post_withNative fun _ _ _ => goto_mayRaise rfl
  | clearEoi => exact post_withBases fun _ _ => finish_mayRaise
  | _ => exact post_fault _

/-! ### Each instruction -/

/-- R200's column "raised by": the request whose step from `s` to a state raises an error. -/
inductive RaisedBy (s : State) : Instr → Status → State → Prop where
  | alignment {t : State} (tagf : BitVec 16) (reg : BitVec 8) (val : Word) (h : reg.toNat % 4 ≠ 0) :
    RaisedBy s (.cfgWrite tagf reg val) .alignmentError t
  | unsupported {t : State} (vendor device tagf : BitVec 16) :
    RaisedBy s (.attach vendor device tagf) .unsupportedDevice t
  | duplicate {t : State} (vendor device tagf : BitVec 16) (h : s.driver ≠ .none) :
    RaisedBy s (.attach vendor device tagf) .duplicateDevice t
  | absent {t : State} (vendor device tagf : BitVec 16) (h : t.present = false) :
    RaisedBy s (.attach vendor device tagf) .diskAbsent t
  | media {t : State} (writing : Bool) (h : BlockInv s → writing = false) :
    RaisedBy s (.complete writing) .diskMediaError t
  | fatal {t : State} (h : NativeInstalled s) : RaisedBy s .clearIntr .diskMediaFatal t

/-- A COMPLETE that stands at a position is a read: a write has no event (R147). -/
theorem StandsAt.complete_reads {writing : Bool} (h : StandsAt (.complete writing) k s) : writing = false := by
  have hfits := h.pos_fits
  cases k with
  | completeWait p => exact hfits.2.2
  | completePull got => exact hfits.2.2.1
  | _ => exact hfits.elim

theorem execAttach_mayRaise {vendor device tagf : BitVec 16} :
    Post (MayRaise (RaisedBy s (.attach vendor device tagf)) s) (execAttach vendor device tagf s) := by
  have habsent : ∀ t, t.present = false → RaisedBy s (.attach vendor device tagf) .diskAbsent t :=
    fun _ => .absent vendor device tagf
  exact onRequest_mayRaise
    (attachStart_mayRaise (fun _ => .unsupported vendor device tagf) (fun hd _ => .duplicate vendor device tagf hd)
      habsent)
    fun _ _ => attachGo_mayRaise habsent

theorem execComplete_mayRaise {writing : Bool} :
    Post (MayRaise (RaisedBy s (.complete writing)) s) (execComplete writing s) := by
  refine onRequest_mayRaise ?_ fun k hk => completeGo_mayRaise fun _ =>
    .media writing fun hinv => (standsAt_of_blockInv hinv hk).complete_reads
  split
  · exact finish_mayRaise
  · next hread =>
    exact completeGo_mayRaise (s := s.nextId.setSpin 0) fun _ => .media writing fun _ => by simpa using hread

/-- An instruction raises only the errors R200 names it for. -/
theorem exec_mayRaise (i : Instr) : Post (MayRaise (RaisedBy s i) s) (exec i s) := by
  unfold exec
  cases i with
  | cfgRead tagf reg width => exact onRequest_mayRaise cfgReadGo_mayRaise fun _ _ => cfgReadGo_mayRaise
  | cfgWrite tagf reg val =>
    refine onRequest_mayRaise ?_ fun _ _ => cfgWriteGo_mayRaise
    split
    · next hreg => exact raise_mayRaise fun _ _ => .alignment tagf reg val hreg
    · exact cfgWriteGo_mayRaise
  | tagMake bus dev fn => exact pureRequest_mayRaise
  | tagSplit tag => exact pureRequest_mayRaise
  | barDecode raw => exact pureRequest_mayRaise
  | attach vendor device tagf => exact execAttach_mayRaise
  | start unit writing lba payload =>
    exact onRequest_mayRaise (startGo_mayRaise (s := s.nextId.setSpin 0)) fun _ _ => startGo_mayRaise
  | complete writing => exact execComplete_mayRaise
  | hasIntr =>
    refine onRequest_mayRaise ?_ fun _ _ => hasIntrGo_mayRaise
    split
    · exact finish_mayRaise
    · exact hasIntrGo_mayRaise
  | clearIntr =>
    have hfatal : NativeInstalled s → ∀ t, RaisedBy s .clearIntr .diskMediaFatal t := fun hn _ => .fatal hn
    exact onRequest_mayRaise (clearIntrGo_mayRaise hfatal) fun _ _ => clearIntrGo_mayRaise hfatal
  | ataCmdRead => exact deviceCommand_mayRaise
  | ataCmdWrite => exact deviceCommand_mayRaise

end ErrorsRaised

/-- Settles O52: a new result is a success or an error `RaisedBy` gives to the instruction. -/
theorem errorsAreRaisedByTheirRequests : Obligations.ErrorsAreRaisedByTheirRequests := by
  rintro s t i ⟨status, value, data⟩ he hr hnew
  obtain hok | hraised := (post_iff.1 (exec_mayRaise i) t he).status_of_new hr hnew
  · obtain rfl : status = .ok := hok
    trivial
  · cases hraised with
    | alignment tagf reg val h => exact ⟨tagf, reg, val, rfl, h⟩
    | unsupported vendor device tagf => exact ⟨vendor, device, tagf, rfl⟩
    | duplicate vendor device tagf h => exact ⟨vendor, device, tagf, rfl, h⟩
    | absent vendor device tagf h => exact ⟨vendor, device, tagf, rfl, h⟩
    | media writing h => exact ⟨writing, rfl, h⟩
    | fatal h => exact ⟨rfl, h⟩

end Sys2Proof.Machine
end

section
/-! ## Fields of a header (R70, R71)

The fields of an OR of placed values, that adjacent fields determine a header, and the fields as masks select them. -/

namespace Sys2Proof

section Fields

variable {w lo n p : Nat}

theorem getLsbD_field (h : Header) (lo n i : Nat) :
    (field h lo n).getLsbD i = (decide (i < n) && h.getLsbD (lo + i)) := BitVec.getLsbD_extractLsb' ..

theorem getLsbD_place (v : BitVec w) (lo i : Nat) :
    (place v lo).getLsbD i = (decide (i < 64) && !decide (i < lo) && v.getLsbD (i - lo)) := by
  rw [place, BitVec.getLsbD_shiftLeft, BitVec.getLsbD_setWidth]
  by_cases hi : i < 64
  · simp [hi, show i - lo < 64 by omega]
  · simp [hi]

@[simp] theorem field_or (a b : Header) (lo n : Nat) : field (a ||| b) lo n = field a lo n ||| field b lo n :=
  BitVec.extractLsb'_or

/-- The field a value was placed in is the value. -/
@[simp] theorem field_place_same (v : BitVec n) (h : lo + n ≤ 64) : field (place v lo) lo n = v := by
  refine BitVec.eq_of_getLsbD_eq fun i hi => ?_
  rw [getLsbD_field, getLsbD_place]
  simp [hi, show lo + i < 64 by omega]

/-- A value placed elsewhere leaves a field 0. -/
@[simp] theorem field_place_apart (v : BitVec w) (h : lo + n ≤ p ∨ p + w ≤ lo) : field (place v p) lo n = 0#n := by
  refine BitVec.eq_of_getLsbD_eq fun i hi => ?_
  obtain h | h := h
  · simp [getLsbD_field, getLsbD_place, show lo + i < p by omega]
  · simp [getLsbD_field, getLsbD_place, BitVec.getLsbD_of_ge v _ (show w ≤ lo + i - p by omega)]

/-- Two headers that agree on adjacent fields agree on the field both make. -/
theorem field_eq_append {a b : Header} (n m : Nat) (hn : field a lo n = field b lo n)
    (hm : field a (lo + n) m = field b (lo + n) m) : field a lo (n + m) = field b lo (n + m) := by
  refine BitVec.eq_of_getLsbD_eq fun i hi => ?_
  by_cases hin : i < n
  · have hbit := congrArg (BitVec.getLsbD · i) hn
    simpa only [getLsbD_field, hi, hin] using hbit
  · have hbit := congrArg (BitVec.getLsbD · (i - n)) hm
    simpa only [getLsbD_field, hi, show i - n < m by omega, show lo + n + (i - n) = lo + i by omega] using hbit

/-- A header is its op and the 56 bits above it (R70). -/
theorem header_eq {a b : Header} (hop : opOf a = opOf b) (hrest : field a 8 56 = field b 8 56) : a = b := by
  have hall : field a 0 64 = field b 0 64 := field_eq_append 8 56 hop hrest
  simpa only [field, BitVec.extractLsb'_eq_self] using hall

/-- A field of one bit is that bit. -/
theorem field_one (h : Header) (lo : Nat) : field h lo 1 = BitVec.ofBool (h.getLsbD lo) := by
  refine BitVec.eq_of_getLsbD_eq fun i hi => ?_
  obtain rfl : i = 0 := by omega
  rw [getLsbD_field]
  simp

theorem field_one_eq {a b : Header} (h : a.getLsbD lo = b.getLsbD lo) : field a lo 1 = field b lo 1 := by
  rw [field_one, field_one, h]

theorem getLsbD_eq_iff_field {h : Header} {b : Bool} : h.getLsbD lo = b ↔ field h lo 1 = BitVec.ofBool b := by
  rw [field_one]
  cases h.getLsbD lo <;> cases b <;> decide

/-- The op has no bits above bit 7 (R70). -/
@[simp] theorem field_of_lt {x : Header} (h : x.toNat < 2 ^ lo) : field x lo n = 0#n := by
  refine BitVec.eq_of_getLsbD_eq fun i _ => ?_
  have hlt : x.toNat < 2 ^ (lo + i) := h.trans_le (Nat.pow_le_pow_right (by decide) (Nat.le_add_right lo i))
  rw [getLsbD_field, BitVec.getLsbD, Nat.testBit_lt_two_pow hlt]
  simp

theorem opOf_eq_setWidth (h : Header) : opOf h = h.setWidth 8 :=
  BitVec.eq_of_toNat_eq (by simp [opOf, field])

/-- A field above the op leaves it alone. -/
@[simp] theorem setWidth_place (v : BitVec w) (h : 8 ≤ lo) : (place v lo).setWidth 8 = 0#8 := by
  rw [← opOf_eq_setWidth, opOf, field_place_apart v (.inl (by omega))]

/-- A mask on a shifted header selects bits of a field. -/
theorem shift_and_setWidth (h : Header) (lo : Nat) (m : BitVec n) :
    h >>> lo &&& m.setWidth 64 = (field h lo n &&& m).setWidth 64 := by
  refine BitVec.eq_of_getLsbD_eq fun i hi => ?_
  rw [BitVec.getLsbD_and, BitVec.getLsbD_setWidth, BitVec.getLsbD_setWidth, BitVec.getLsbD_and, getLsbD_field,
    BitVec.getLsbD_ushiftRight]
  by_cases hn : i < n
  · simp [hi, hn]
  · simp [hn, BitVec.getLsbD_of_ge m i (by omega)]

theorem shift_and_eq_iff {h : Header} {m v : BitVec n} (hn : n ≤ 64) :
    h >>> lo &&& m.setWidth 64 = v.setWidth 64 ↔ field h lo n &&& m = v := by
  rw [shift_and_setWidth]
  refine ⟨fun heq => ?_, fun heq => by rw [heq]⟩
  have hback := congrArg (BitVec.setWidth n) heq
  rwa [BitVec.setWidth_setWidth_of_le _ hn, BitVec.setWidth_setWidth_of_le _ hn, BitVec.setWidth_eq,
    BitVec.setWidth_eq] at hback

theorem and_place_allOnes (h : Header) (lo n : Nat) :
    h &&& place (BitVec.allOnes n) lo = place (field h lo n) lo := by
  refine BitVec.eq_of_getLsbD_eq fun i hi => ?_
  rw [BitVec.getLsbD_and, getLsbD_place, getLsbD_place, getLsbD_field]
  by_cases hlo : i < lo
  · simp [hlo]
  · simp [hlo, hi, show lo + (i - lo) = i by omega, Bool.and_comm]

/-- A mask that takes a field in asks that the field be 0, where the match has it 0. -/
theorem and_or_place_eq_iff {h m k : Header} (hk : field k lo n = 0#n) (hn : lo + n ≤ 64) :
    h &&& (m ||| place (BitVec.allOnes n) lo) = k ↔ h &&& m = k ∧ field h lo n = 0#n := by
  have hsplit : h &&& (m ||| place (BitVec.allOnes n) lo) = h &&& m ||| place (field h lo n) lo := by
    rw [BitVec.and_or_distrib_left, and_place_allOnes]
  have hnone : place (0#n) lo = 0#64 := by simp [place]
  rw [hsplit]
  constructor
  · intro heq
    have hfield : field h lo n = 0#n := by
      have hor := congrArg (field · lo n) heq
      simp only [field_or, field_place_same _ hn, hk, BitVec.or_eq_zero_iff] at hor
      exact hor.2
    rw [hfield, hnone, BitVec.or_zero] at heq
    exact ⟨heq, hfield⟩
  · rintro ⟨heq, hfield⟩
    rw [hfield, hnone, BitVec.or_zero, heq]

end Fields

end Sys2Proof
end

section
/-! ## What decodes, row by row (O1, O2) -/

namespace Sys2Proof

/-- The request is a code of the instruction: its op selects the instruction's row of R71, its fields are the operands,
its must-be-zero bits are 0 and its operands pass R83. -/
inductive IsCodeOf (r : Request) : Instr → Prop where
  | cfgRead {tagf : BitVec 16} {reg : BitVec 8} {width : BitVec 3} (hop : opOf r.header = 0x01)
    (htag : field r.header 8 16 = tagf) (hreg : field r.header 24 8 = reg) (hwidth : field r.header 32 3 = width)
    (hzero : field r.header 35 29 = 0) (hpayload : r.payload = []) (hok : widthOk width = true) :
    IsCodeOf r (.cfgRead tagf reg width)
  | cfgWrite {tagf : BitVec 16} {reg : BitVec 8} {val : Word} (hop : opOf r.header = 0x02)
    (htag : field r.header 8 16 = tagf) (hreg : field r.header 24 8 = reg) (hval : field r.header 32 32 = val)
    (hpayload : r.payload = []) : IsCodeOf r (.cfgWrite tagf reg val)
  | tagMake {bus : BitVec 8} {dev : BitVec 5} {fn : BitVec 3} (hop : opOf r.header = 0x03)
    (hbus : field r.header 8 8 = bus) (hdev : field r.header 16 5 = dev) (hfn : field r.header 21 3 = fn)
    (hzero : field r.header 24 40 = 0) (hpayload : r.payload = []) : IsCodeOf r (.tagMake bus dev fn)
  | tagSplit {tag : Word} (hop : opOf r.header = 0x04) (htag : field r.header 8 32 = tag)
    (hzero : field r.header 40 24 = 0) (hpayload : r.payload = []) (hok : tagOk tag = true) : IsCodeOf r (.tagSplit tag)
  | barDecode {raw : Word} (hop : opOf r.header = 0x05) (hraw : field r.header 8 32 = raw)
    (hzero : field r.header 40 24 = 0) (hpayload : r.payload = []) : IsCodeOf r (.barDecode raw)
  | attach {vendor device tagf : BitVec 16} (hop : opOf r.header = 0x10) (hvendor : field r.header 8 16 = vendor)
    (hdevice : field r.header 24 16 = device) (htag : field r.header 40 16 = tagf)
    (hzero : field r.header 56 8 = 0) (hpayload : r.payload = []) : IsCodeOf r (.attach vendor device tagf)
  | start {unit : BitVec 1} {writing : Bool} {lba : BitVec 28} {payload : List Byte} (hop : opOf r.header = 0x20)
    (hunit : field r.header 8 1 = unit) (hwriting : writingBit r.header = writing)
    (hlow : field r.header 10 2 = 0) (hlba : field r.header 12 28 = lba) (hzero : field r.header 40 24 = 0)
    (hpayload : r.payload = payload) (hok : payloadOk writing payload = true) :
    IsCodeOf r (.start unit writing lba payload)
  | complete {writing : Bool} (hop : opOf r.header = 0x21) (hwriting : r.header.getLsbD 8 = writing)
    (hzero : field r.header 9 55 = 0) (hpayload : r.payload = []) : IsCodeOf r (.complete writing)
  | hasIntr (hop : opOf r.header = 0x30) (hzero : field r.header 8 56 = 0) (hpayload : r.payload = []) :
    IsCodeOf r .hasIntr
  | clearIntr (hop : opOf r.header = 0x31) (hzero : field r.header 8 56 = 0) (hpayload : r.payload = []) :
    IsCodeOf r .clearIntr

theorem isCodeOf_of_decodeRequest {r : Request} {i : Instr} (h : decodeRequest r = .ok i) : IsCodeOf r i := by
  unfold decodeRequest at h
  split_ifs at h with hop hop hop hop hop hop hop hop hop hop <;>
    obtain ⟨hzero, hpayload, hrest⟩ := checkRow_eq_ok.1 h
  · split at hrest -- CFG_READ
    · next hwidth =>
      cases hrest
      exact .cfgRead hop rfl rfl rfl (beq_iff_eq.1 hzero) (List.isEmpty_iff.1 hpayload) hwidth
    · cases hrest
  · cases hrest -- CFG_WRITE
    exact .cfgWrite hop rfl rfl rfl (List.isEmpty_iff.1 hpayload)
  · cases hrest -- TAG_MAKE
    exact .tagMake hop rfl rfl rfl (beq_iff_eq.1 hzero) (List.isEmpty_iff.1 hpayload)
  · split at hrest -- TAG_SPLIT
    · next htag =>
      cases hrest
      exact .tagSplit hop rfl (beq_iff_eq.1 hzero) (List.isEmpty_iff.1 hpayload) htag
    · cases hrest
  · cases hrest -- BAR_DECODE
    exact .barDecode hop rfl (beq_iff_eq.1 hzero) (List.isEmpty_iff.1 hpayload)
  · cases hrest -- ATTACH
    exact .attach hop rfl rfl rfl (beq_iff_eq.1 hzero) (List.isEmpty_iff.1 hpayload)
  · cases hrest -- START
    obtain ⟨hlow, hhigh⟩ := (Bool.and_eq_true _ _).mp hzero
    exact .start hop rfl rfl (beq_iff_eq.1 hlow) rfl (beq_iff_eq.1 hhigh) rfl hpayload
  · cases hrest -- COMPLETE
    exact .complete hop rfl (beq_iff_eq.1 hzero) (List.isEmpty_iff.1 hpayload)
  · cases hrest -- HAS_INTR
    exact .hasIntr hop (beq_iff_eq.1 hzero) (List.isEmpty_iff.1 hpayload)
  · cases hrest -- CLEAR_INTR
    exact .clearIntr hop (beq_iff_eq.1 hzero) (List.isEmpty_iff.1 hpayload)

theorem IsCodeOf.decodeRequest_eq {r : Request} {i : Instr} (h : IsCodeOf r i) : decodeRequest r = .ok i := by
  cases h with
  | cfgRead hop htag hreg hwidth hzero hpayload hok =>
    subst htag hreg hwidth
    simp [decodeRequest, hop, decodeCfgRead, checkRow, hzero, hpayload, hok]
  | cfgWrite hop htag hreg hval hpayload =>
    subst htag hreg hval
    simp [decodeRequest, hop, decodeCfgWrite, checkRow, hpayload]
  | tagMake hop hbus hdev hfn hzero hpayload =>
    subst hbus hdev hfn
    simp [decodeRequest, hop, decodeTagMake, checkRow, hzero, hpayload]
  | tagSplit hop htag hzero hpayload hok =>
    subst htag
    simp [decodeRequest, hop, decodeTagSplit, checkRow, hzero, hpayload, hok]
  | barDecode hop hraw hzero hpayload =>
    subst hraw
    simp [decodeRequest, hop, decodeBarDecode, checkRow, hzero, hpayload]
  | attach hop hvendor hdevice htag hzero hpayload =>
    subst hvendor hdevice htag
    simp [decodeRequest, hop, decodeAttach, checkRow, hzero, hpayload]
  | start hop hunit hwriting hlow hlba hzero hpayload hok =>
    subst hunit hwriting hlba hpayload
    simp [decodeRequest, hop, opStart, decodeStart, checkRow, hlow, hzero, hok]
  | complete hop hwriting hzero hpayload =>
    subst hwriting
    simp [decodeRequest, hop, opStart, decodeComplete, checkRow, hzero, hpayload]
  | hasIntr hop hzero hpayload =>
    simp [decodeRequest, hop, opStart, decodeHasIntr, checkRow, hzero, hpayload]
  | clearIntr hop hzero hpayload =>
    simp [decodeRequest, hop, opStart, decodeClearIntr, checkRow, hzero, hpayload]

/-- The decoder of requests gives the instruction of which the request is a code, and no other. -/
theorem decodeRequest_eq_ok {r : Request} {i : Instr} : decodeRequest r = .ok i ↔ IsCodeOf r i :=
  ⟨isCodeOf_of_decodeRequest, IsCodeOf.decodeRequest_eq⟩

/-! ### The encoder -/

/-- The encoder gives a well-formed instruction a code of it. -/
theorem isCodeOf_of_encode {r : Request} {i : Instr} (hw : i.WellFormed) (he : encode i = .request r) :
    IsCodeOf r i := by
  cases i with
  | cfgRead tagf reg width =>
    cases he
    refine .cfgRead ?_ ?_ ?_ ?_ ?_ rfl hw <;> simp [opOf_eq_setWidth]
  | cfgWrite tagf reg val =>
    cases he
    refine .cfgWrite ?_ ?_ ?_ ?_ rfl <;> simp [opOf_eq_setWidth]
  | tagMake bus dev fn =>
    cases he
    refine .tagMake ?_ ?_ ?_ ?_ ?_ rfl <;> simp [opOf_eq_setWidth]
  | tagSplit tag =>
    cases he
    refine .tagSplit ?_ ?_ ?_ rfl hw <;> simp [opOf_eq_setWidth]
  | barDecode raw =>
    cases he
    refine .barDecode ?_ ?_ ?_ rfl <;> simp [opOf_eq_setWidth]
  | attach vendor device tagf =>
    cases he
    refine .attach ?_ ?_ ?_ ?_ ?_ rfl <;> simp [opOf_eq_setWidth]
  | start unit writing lba payload =>
    cases he
    refine .start ?_ ?_ (getLsbD_eq_iff_field.2 ?_) ?_ ?_ ?_ rfl hw <;> simp [opOf_eq_setWidth]
  | complete writing =>
    cases he
    refine .complete ?_ (getLsbD_eq_iff_field.2 ?_) ?_ rfl <;> simp [opOf_eq_setWidth]
  | hasIntr =>
    cases he
    refine .hasIntr ?_ ?_ rfl <;> simp [opOf_eq_setWidth]
  | clearIntr =>
    cases he
    refine .clearIntr ?_ ?_ rfl <;> simp [opOf_eq_setWidth]
  | ataCmdRead => cases he
  | ataCmdWrite => cases he

/-- A request is its payload, its op and the 56 bits above the op (R70). -/
theorem request_eq {r r' : Request} (hpayload : r.payload = r'.payload) (hop : opOf r.header = opOf r'.header)
    (hrest : field r.header 8 56 = field r'.header 8 56) : r = r' := by
  cases r
  cases r'
  exact congrArg₂ Request.mk (header_eq hop hrest) hpayload

/-- Operands, op, must-be-zero bits and payload leave nothing of a code open. -/
theorem IsCodeOf.unique {r r' : Request} {i : Instr} (h : IsCodeOf r i) (h' : IsCodeOf r' i) : r' = r := by
  cases h with
  | cfgRead hop htag hreg hwidth hzero hpayload _ =>
    subst htag hreg hwidth
    cases h' with
    | cfgRead hop' htag' hreg' hwidth' hzero' hpayload' _ =>
      refine request_eq (hpayload'.trans hpayload.symm) (hop'.trans hop.symm) ?_
      exact field_eq_append 16 40 htag'
        (field_eq_append 8 32 hreg' (field_eq_append 3 29 hwidth' (hzero'.trans hzero.symm)))
  | cfgWrite hop htag hreg hval hpayload =>
    subst htag hreg hval
    cases h' with
    | cfgWrite hop' htag' hreg' hval' hpayload' =>
      refine request_eq (hpayload'.trans hpayload.symm) (hop'.trans hop.symm) ?_
      exact field_eq_append 16 40 htag' (field_eq_append 8 32 hreg' hval')
  | tagMake hop hbus hdev hfn hzero hpayload =>
    subst hbus hdev hfn
    cases h' with
    | tagMake hop' hbus' hdev' hfn' hzero' hpayload' =>
      refine request_eq (hpayload'.trans hpayload.symm) (hop'.trans hop.symm) ?_
      exact field_eq_append 8 48 hbus'
        (field_eq_append 5 43 hdev' (field_eq_append 3 40 hfn' (hzero'.trans hzero.symm)))
  | tagSplit hop htag hzero hpayload _ =>
    subst htag
    cases h' with
    | tagSplit hop' htag' hzero' hpayload' _ =>
      refine request_eq (hpayload'.trans hpayload.symm) (hop'.trans hop.symm) ?_
      exact field_eq_append 32 24 htag' (hzero'.trans hzero.symm)
  | barDecode hop hraw hzero hpayload =>
    subst hraw
    cases h' with
    | barDecode hop' hraw' hzero' hpayload' =>
      refine request_eq (hpayload'.trans hpayload.symm) (hop'.trans hop.symm) ?_
      exact field_eq_append 32 24 hraw' (hzero'.trans hzero.symm)
  | attach hop hvendor hdevice htag hzero hpayload =>
    subst hvendor hdevice htag
    cases h' with
    | attach hop' hvendor' hdevice' htag' hzero' hpayload' =>
      refine request_eq (hpayload'.trans hpayload.symm) (hop'.trans hop.symm) ?_
      exact field_eq_append 16 40 hvendor'
        (field_eq_append 16 24 hdevice' (field_eq_append 16 8 htag' (hzero'.trans hzero.symm)))
  | start hop hunit hwriting hlow hlba hzero hpayload _ =>
    subst hunit hwriting hlba
    cases h' with
    | start hop' hunit' hwriting' hlow' hlba' hzero' hpayload' _ =>
      refine request_eq (hpayload'.trans hpayload.symm) (hop'.trans hop.symm) ?_
      exact field_eq_append 1 55 hunit' (field_eq_append 1 54 (field_one_eq hwriting')
        (field_eq_append 2 52 (hlow'.trans hlow.symm) (field_eq_append 28 24 hlba' (hzero'.trans hzero.symm))))
  | complete hop hwriting hzero hpayload =>
    subst hwriting
    cases h' with
    | complete hop' hwriting' hzero' hpayload' =>
      refine request_eq (hpayload'.trans hpayload.symm) (hop'.trans hop.symm) ?_
      exact field_eq_append 1 55 (field_one_eq hwriting') (hzero'.trans hzero.symm)
  | hasIntr hop hzero hpayload =>
    cases h' with
    | hasIntr hop' hzero' hpayload' =>
      refine request_eq (hpayload'.trans hpayload.symm) (hop'.trans hop.symm) ?_
      exact hzero'.trans hzero.symm
  | clearIntr hop hzero hpayload =>
    cases h' with
    | clearIntr hop' hzero' hpayload' =>
      refine request_eq (hpayload'.trans hpayload.symm) (hop'.trans hop.symm) ?_
      exact hzero'.trans hzero.symm

/-- Only the two ATA commands have no header (R82). -/
theorem encode_eq_command {i : Instr} {b : Byte} (h : encode i = .command b) : decodeCommand b = .ok i := by
  cases i with
  | ataCmdRead => cases h; rfl
  | ataCmdWrite => cases h; rfl
  | _ => cases h

theorem decodeCommand_eq_ok {i : Instr} {b : Byte} (h : decodeCommand b = .ok i) :
    encode i = .command b ∧ i.WellFormed := by
  unfold decodeCommand at h
  split_ifs at h with hread hwrite
  · cases h; exact ⟨congrArg Code.command hread.symm, rfl⟩
  · cases h; exact ⟨congrArg Code.command hwrite.symm, rfl⟩

/-- An instruction with a request code is encoded as a request. -/
theorem IsCodeOf.exists_encode {r : Request} {i : Instr} (h : IsCodeOf r i) : ∃ r', encode i = .request r' := by
  cases h <;> exact ⟨_, rfl⟩

/-- Settles O1: the encoder gives each instruction a code of it, and codes decode. -/
theorem decodeOfEncode : Obligations.DecodeOfEncode := by
  intro i hw
  cases he : encode i with
  | request r => exact decodeRequest_eq_ok.2 (isCodeOf_of_encode hw he)
  | command b => exact encode_eq_command he

/-- Settles O2: what decodes is a code of its instruction, the encoding is one, and there is but one. -/
theorem encodeOfDecode : Obligations.EncodeOfDecode := by
  intro c i hd
  cases c with
  | command b => exact decodeCommand_eq_ok hd
  | request r =>
    have hcode : IsCodeOf r i := decodeRequest_eq_ok.1 hd
    have hw : i.WellFormed := wellFormed_of_decodeRequest hd
    obtain ⟨r', he⟩ := hcode.exists_encode
    obtain rfl : r' = r := hcode.unique (isCodeOf_of_encode hw he)
    exact ⟨he, hw⟩

end Sys2Proof
end

section
/-! ## What a step of each kind of block is (O8, O9, O10, O11, O12, O30) -/

namespace Sys2Proof.Machine

section Steps

variable {s : State}

theorem step_of_ready (h : Ready s) {r : Request} {rest : List Request} (hr : s.requests = r :: rest) {i : Instr}
    (hd : decode (.request r) = .ok i) : step s = exec i (s.setRequests rest) := by
  simp [step, fetch, h.1, h.2, hr, hd]

theorem step_of_undecodable (h : Ready s) {r : Request} {rest : List Request} (hr : s.requests = r :: rest)
    (hd : ∀ i, decode (.request r) ≠ .ok i) : ∃ reason, step s = .refused reason := by
  cases he : decode (.request r) with
  | ok i => exact absurd he (hd i)
  | error e => exact ⟨refusalOf e, by simp [step, fetch, h.1, h.2, hr, he]⟩

theorem step_of_waiting (h : Ready s) (hr : s.requests = []) : step s = .next s := by
  simp [step, fetch, h.1, h.2, hr]

theorem step_of_running {i : Instr} {k : Pos} (h : Running i k s) : step s = exec (runningInstr i k) s := by
  simp [step, fetch, h.1, h.2]

theorem step_of_halted (h : s.halted = true) : step s = .fault .halted := by simp [step, h]

/-- Everywhere but at START's command position the block runs the request itself (R82). -/
theorem runningInstr_of_ne {k : Pos} (hk : k ≠ .startCommand) (i : Instr) : runningInstr i k = i := by
  unfold runningInstr
  split
  · exact absurd rfl hk
  · rfl

theorem runningInstr_startCommand (unit : BitVec 1) (writing : Bool) (lba : BitVec 28) (payload : List Byte) :
    runningInstr (.start unit writing lba payload) .startCommand = if writing then .ataCmdWrite else .ataCmdRead := rfl

/-! ### The device commands -/

theorem exec_deviceCommand (writing : Bool) (s : State) :
    exec (if writing then .ataCmdWrite else .ataCmdRead) s = deviceCommand writing s := by
  cases writing <;> rfl

theorem deviceCommand_of_ready (h : Ready s) (writing : Bool) : deviceCommand writing s = .refused .notARequest := by
  simp [deviceCommand, h.1, h.2]

/-- At the command position a START's device command is its command write (R82). -/
theorem deviceCommand_of_standing {unit : BitVec 1} {writing : Bool} {lba : BitVec 28} {payload : List Byte}
    (h : Running (.start unit writing lba payload) .startCommand s) :
    deviceCommand writing s = issueCommand (.start unit writing lba payload) writing s := by
  simp [deviceCommand, h.1, h.2]

/-- Anywhere else in a running request a device command is held (R23). -/
theorem deviceCommand_held {j : Instr} {k : Pos} {writing : Bool} (h : Running j k s)
    (hne : (if writing then .ataCmdWrite else .ataCmdRead) ≠ runningInstr j k) :
    deviceCommand writing s = .next s := by
  unfold deviceCommand
  rw [if_neg (by simp [h.1]), h.2]
  split
  · next unit w lba payload hseq =>
    cases hseq
    refine if_neg fun hw => hne ?_
    rw [hw, runningInstr_startCommand]
  · rfl
  · next hseq => cases hseq

/-- A START's own step at its command position is the command write. -/
theorem exec_start_command {unit : BitVec 1} {writing : Bool} {lba : BitVec 28} {payload : List Byte}
    (h : Running (.start unit writing lba payload) .startCommand s) :
    exec (.start unit writing lba payload) s = issueCommand (.start unit writing lba payload) writing s := by
  cases hb : s.driver.bases with
  | some b => exact exec_startCommand h hb
  | none => rw [exec_start_of_running h]; simp [startGo, issueCommand, withBases, hb]

end Steps

/-- Settles O8: the fetch decodes the first request and takes it from the list. -/
theorem stepRunsDecodedRequest : Obligations.StepRunsDecodedRequest := fun _ _ _ _ h hr hd => step_of_ready h hr hd

/-- Settles O9: at START's command position the device command and the START write the same byte. -/
theorem stepRunsRunningRequest : Obligations.StepRunsRunningRequest := by
  refine ⟨fun s i k h hk => ?_, fun s unit writing lba payload h => ?_⟩
  · rw [step_of_running h, runningInstr_of_ne hk]
  · have hstep : step s = exec (if writing then .ataCmdWrite else .ataCmdRead) s := step_of_running h
    refine ⟨hstep, ?_⟩
    calc step s = deviceCommand writing s := hstep.trans (exec_deviceCommand writing s)
      _ = issueCommand (.start unit writing lba payload) writing s := deviceCommand_of_standing h
      _ = exec (.start unit writing lba payload) s := (exec_start_command h).symm

/-- Settles O10: there is nothing to fetch. -/
theorem idleBlockWaits : Obligations.IdleBlockWaits := fun _ => step_of_waiting

/-- Settles O11: a request's check and events are not reached, and a device command stands at no START of its own. -/
theorem offeredRequestIsHeld : Obligations.OfferedRequestIsHeld := by
  intro s i j k h hij hne
  unfold exec
  cases i with
  | ataCmdRead => exact deviceCommand_held (writing := false) h hne
  | ataCmdWrite => exact deviceCommand_held (writing := true) h hne
  | _ => exact onRequest_held h hij.symm

/-- Settles O12: the halt is tested before the fetch, and first in every meaning. -/
theorem haltedBlockIsStuck : Obligations.HaltedBlockIsStuck := fun _ h => ⟨step_of_halted h, exec_halted h⟩

/-- Settles O29: a device command at its START is the START's command write. -/
theorem deviceCommandsComplete : Obligations.DeviceCommandsComplete := by
  refine ⟨fun s unit lba payload b h hb => ?_, fun s unit lba payload b h hb => ?_⟩
  · exact (deviceCommand_of_standing h).trans (issueCommand_read _ hb)
  · exact (deviceCommand_of_standing h).trans (issueCommand_write _ hb)

/-- Settles O30: an idle block stands at no START. -/
theorem deviceCommandIsNoRequest : Obligations.DeviceCommandIsNoRequest := fun _ h =>
  ⟨deviceCommand_of_ready h false, deviceCommand_of_ready h true⟩

end Sys2Proof.Machine
end

section
/-! ## Which requests are refused in decoding (O3, O4)

The table's matches and masks (R71) and the conditions of R83, as statements on the fields `IsCodeOf` speaks of. -/

namespace Sys2Proof

section Refused

variable {h : Header} {r : Request}

/-! ### Masks and fields -/

theorem and_FF_eq_iff {op : BitVec 8} : h &&& 0xFF = op.setWidth 64 ↔ opOf h = op := by
  have hiff := shift_and_eq_iff (h := h) (lo := 0) (m := 0xFF#8) (v := op) (by decide)
  rwa [BitVec.ushiftRight_zero, show (0xFF#8 : BitVec 8) = BitVec.allOnes 8 from rfl, BitVec.and_allOnes] at hiff

theorem width_bits_eq_iff {v : BitVec 3} : h >>> 32 &&& 7 = v.setWidth 64 ↔ field h 32 3 = v := by
  have hiff := shift_and_eq_iff (h := h) (lo := 32) (m := 7#3) (v := v) (by decide)
  rwa [show (7#3 : BitVec 3) = BitVec.allOnes 3 from rfl, BitVec.and_allOnes] at hiff

theorem tag_bits_eq_zero_iff : h >>> 8 &&& 0xFF0000FF = 0 ↔ tagOk (field h 8 32) = true :=
  (shift_and_eq_iff (m := 0xFF0000FF#32) (v := 0#32) (by decide)).trans Machine.tagOk_iff.symm

theorem writing_bit_iff : h >>> 9 &&& 1 = 1 ↔ writingBit h = true := by
  have hiff := shift_and_eq_iff (h := h) (lo := 9) (m := 1#1) (v := BitVec.ofBool true) (by decide)
  rw [show (1#1 : BitVec 1) = BitVec.allOnes 1 from rfl, BitVec.and_allOnes] at hiff
  exact hiff.trans getLsbD_eq_iff_field.symm

theorem payloadExpected_iff : PayloadExpected r ↔ opOf r.header = 0x20 ∧ writingBit r.header = true :=
  and_congr (and_FF_eq_iff (op := 0x20)) writing_bit_iff

/-! ### The rows of the table -/

/-- The mask of a row is the op's with the must-be-zero fields taken in. -/
theorem row_iff {lo n : Nat} {op : BitVec 8} (hlo : 8 ≤ lo) (hn : lo + n ≤ 64) :
    h &&& (0xFF ||| place (BitVec.allOnes n) lo) = op.setWidth 64 ↔ opOf h = op ∧ field h lo n = 0#n := by
  have hlt : (op.setWidth 64).toNat < 2 ^ lo := by
    rw [BitVec.toNat_setWidth_of_le (by decide)]
    exact op.isLt.trans_le (Nat.pow_le_pow_right (by decide) hlo)
  rw [and_or_place_eq_iff (field_of_lt hlt) hn, and_FF_eq_iff]

/-- The op is one of R71's, and the must-be-zero bits of its row are 0. -/
def InTable (h : Header) : Prop :=
  (opOf h = 0x01 ∧ field h 35 29 = 0) ∨ opOf h = 0x02 ∨ (opOf h = 0x03 ∧ field h 24 40 = 0) ∨
    (opOf h = 0x04 ∧ field h 40 24 = 0) ∨ (opOf h = 0x05 ∧ field h 40 24 = 0) ∨ (opOf h = 0x10 ∧ field h 56 8 = 0) ∨
    (opOf h = 0x20 ∧ field h 10 2 = 0 ∧ field h 40 24 = 0) ∨ (opOf h = 0x21 ∧ field h 9 55 = 0) ∨
    (opOf h = 0x30 ∧ field h 8 56 = 0) ∨ (opOf h = 0x31 ∧ field h 8 56 = 0)

theorem inTable_iff : InTable h ↔ ∃ row ∈ requestRows, h &&& row.mask = row.matchBits := by
  have hstart : h &&& 0xFFFFFF0000000CFF = 0x20 ↔ opOf h = 0x20 ∧ field h 10 2 = 0 ∧ field h 40 24 = 0 := by
    have hhigh := and_or_place_eq_iff (h := h) (m := 0xFF ||| place (BitVec.allOnes 2) 10) (k := 0x20) (lo := 40)
      (n := 24) (by simp) (by decide)
    exact hhigh.trans ((and_congr_left' (row_iff (op := 0x20) (by decide) (by decide))).trans and_assoc)
  simp only [requestRows, List.mem_cons, List.not_mem_nil, or_false, exists_eq_or_imp, exists_eq_left]
  exact .symm <| or_congr (row_iff (lo := 35) (n := 29) (op := 0x01) (by decide) (by decide)) <|
    or_congr (and_FF_eq_iff (op := 0x02)) <|
    or_congr (row_iff (lo := 24) (n := 40) (op := 0x03) (by decide) (by decide)) <|
    or_congr (row_iff (lo := 40) (n := 24) (op := 0x04) (by decide) (by decide)) <|
    or_congr (row_iff (lo := 40) (n := 24) (op := 0x05) (by decide) (by decide)) <|
    or_congr (row_iff (lo := 56) (n := 8) (op := 0x10) (by decide) (by decide)) <|
    or_congr hstart <|
    or_congr (row_iff (lo := 9) (n := 55) (op := 0x21) (by decide) (by decide)) <|
    or_congr (row_iff (lo := 8) (n := 56) (op := 0x30) (by decide) (by decide))
      (row_iff (lo := 8) (n := 56) (op := 0x31) (by decide) (by decide))

/-- A header passes R83 when its row is in the table and the row's own condition holds. -/
theorem not_refusedHeader_iff :
    ¬ RefusedHeader r ↔ InTable r.header ∧ (opOf r.header = 0x01 → widthOk (field r.header 32 3) = true) ∧
      (opOf r.header = 0x04 → tagOk (field r.header 8 32) = true) ∧
      (opOf r.header = 0x20 → writingBit r.header = true → r.payload.length = 512) := by
  have htable : (∀ row ∈ requestRows, r.header &&& row.mask ≠ row.matchBits) ↔ ¬ InTable r.header := by
    simp [inTable_iff]
  have hwidth : (r.header >>> 32 &&& 7 = 1 ∨ r.header >>> 32 &&& 7 = 2 ∨ r.header >>> 32 &&& 7 = 4) ↔
      widthOk (field r.header 32 3) = true :=
    (or_congr (width_bits_eq_iff (v := 1)) (or_congr (width_bits_eq_iff (v := 2)) (width_bits_eq_iff (v := 4)))).trans
      Machine.widthOk_iff.symm
  have hop : ∀ op : BitVec 8, r.header &&& 0xFF = op.setWidth 64 ↔ opOf r.header = op := fun _ => and_FF_eq_iff
  have h01 : r.header &&& 0xFF = 0x01 ↔ opOf r.header = 0x01 := hop 0x01
  have h04 : r.header &&& 0xFF = 0x04 ↔ opOf r.header = 0x04 := hop 0x04
  have h20 : r.header &&& 0xFF = 0x20 ↔ opOf r.header = 0x20 := hop 0x20
  rw [RefusedHeader, htable, hwidth, h01, h04, h20, ne_eq, tag_bits_eq_zero_iff, writing_bit_iff]
  simp only [not_or, not_and, not_not, ne_eq]

/-! ### Codes and refusals -/

/-- A request that is a code of an instruction is in the table and passes the row's own condition. -/
theorem IsCodeOf.not_refusedHeader {i : Instr} (hcode : IsCodeOf r i) : ¬ RefusedHeader r := by
  rw [not_refusedHeader_iff, InTable]
  cases hcode with
  | cfgRead hop htag hreg hwidth hzero hpayload hok =>
    subst hwidth
    simp [hop, hzero, hok]
  | cfgWrite hop htag hreg hval hpayload => simp [hop]
  | tagMake hop hbus hdev hfn hzero hpayload => simp [hop, hzero]
  | tagSplit hop htag hzero hpayload hok =>
    subst htag
    simp [hop, hzero, hok]
  | barDecode hop hraw hzero hpayload => simp [hop, hzero]
  | attach hop hvendor hdevice htag hzero hpayload => simp [hop, hzero]
  | start hop hunit hwriting hlow hlba hzero hpayload hok =>
    subst hpayload
    refine ⟨by simp [hop, hlow, hzero], by simp [hop], by simp [hop], fun _ hw => ?_⟩
    rw [← hwriting, hw] at hok
    exact beq_iff_eq.1 hok
  | complete hop hwriting hzero hpayload => simp [hop, hzero]
  | hasIntr hop hzero hpayload => simp [hop, hzero]
  | clearIntr hop hzero hpayload => simp [hop, hzero]

/-- A header that passes R83, with a payload only where one may follow, is a code. -/
theorem exists_isCodeOf (hr : ¬ RefusedHeader r) (hp : ¬ PayloadExpected r → r.payload = []) :
    ∃ i, IsCodeOf r i := by
  obtain ⟨htable, hwidth, htag, hlength⟩ := not_refusedHeader_iff.1 hr
  rw [payloadExpected_iff] at hp
  have hnone : opOf r.header ≠ 0x20 → r.payload = [] := fun hop => hp fun h => hop h.1
  obtain ⟨hop, hzero⟩ | hop | ⟨hop, hzero⟩ | ⟨hop, hzero⟩ | ⟨hop, hzero⟩ | ⟨hop, hzero⟩ | ⟨hop, hlow, hzero⟩ |
    ⟨hop, hzero⟩ | ⟨hop, hzero⟩ | ⟨hop, hzero⟩ := htable
  · exact ⟨_, .cfgRead hop rfl rfl rfl hzero (hnone (by simp [hop])) (hwidth hop)⟩
  · exact ⟨_, .cfgWrite hop rfl rfl rfl (hnone (by simp [hop]))⟩
  · exact ⟨_, .tagMake hop rfl rfl rfl hzero (hnone (by simp [hop]))⟩
  · exact ⟨_, .tagSplit hop rfl hzero (hnone (by simp [hop])) (htag hop)⟩
  · exact ⟨_, .barDecode hop rfl hzero (hnone (by simp [hop]))⟩
  · exact ⟨_, .attach hop rfl rfl rfl hzero (hnone (by simp [hop]))⟩
  · refine ⟨_, .start hop rfl rfl hlow rfl hzero rfl (beq_iff_eq.2 ?_)⟩
    cases hw : writingBit r.header with
    | true => exact hlength hop hw
    | false => simp [hp (by simp [hw])]
  · exact ⟨_, .complete hop rfl hzero (hnone (by simp [hop]))⟩
  · exact ⟨_, .hasIntr hop hzero (hnone (by simp [hop]))⟩
  · exact ⟨_, .clearIntr hop hzero (hnone (by simp [hop]))⟩

/-- Only a write START's code has a payload (R84). -/
theorem IsCodeOf.payload_eq_nil {i : Instr} (hcode : IsCodeOf r i) (hp : ¬ PayloadExpected r) : r.payload = [] := by
  rw [payloadExpected_iff] at hp
  cases hcode with
  | start hop hunit hwriting hlow hlba hzero hpayload hok =>
    have hread : writingBit r.header = false := by simpa [hop] using hp
    subst hpayload
    rw [← hwriting, hread] at hok
    exact List.length_eq_zero_iff.1 (beq_iff_eq.1 hok)
  | _ => assumption

end Refused

/-- Settles O3: a header is a code of an instruction exactly where R83 does not refuse it. -/
theorem refusedHeaders : Obligations.RefusedHeaders := by
  intro s r rest h hr hp
  refine ⟨fun hrefused => Machine.step_of_undecodable h hr fun i hd => ?_, fun hpass => ?_⟩
  · exact (decodeRequest_eq_ok.1 hd).not_refusedHeader hrefused
  · obtain ⟨i, hcode⟩ := exists_isCodeOf hpass hp
    exact ⟨i, decodeRequest_eq_ok.2 hcode⟩

/-- Settles O4: a code of a request that carries no payload has none. -/
theorem strayPayloadRefused : Obligations.StrayPayloadRefused := fun _ _ _ h hr hp hne =>
  Machine.step_of_undecodable h hr fun _ hd => hne ((decodeRequest_eq_ok.1 hd).payload_eq_nil hp)

end Sys2Proof
end

section
/-! ## The worked headers and the assembler (O5, O6, O7) -/

namespace Sys2Proof.Machine

/-- Settles O5: the encodings are computed, and decode as every encoding does. -/
theorem workedHeadersDecode : Obligations.WorkedHeadersDecode := by
  have hread : encode (.cfgRead 0x0018 0x3C 1) = .request ⟨0x000000013C001801, []⟩ := by decide
  have hwrite : encode (.cfgWrite 0 0x04 7) = .request ⟨0x0000000704000002, []⟩ := by decide
  have hstart : encode (.start 1 false 0x123456 []) = .request ⟨0x0000000123456120, []⟩ := by decide
  refine ⟨?_, hread, ?_, hwrite, ?_, hstart⟩
  · rw [← hread]
    exact decodeOfEncode _ rfl
  · rw [← hwrite]
    exact decodeOfEncode _ rfl
  · rw [← hstart]
    exact decodeOfEncode _ rfl

/-- Settles O6: the lines are constants, and the assembler computes on them. -/
theorem workedLinesAssemble : Obligations.WorkedLinesAssemble := by
  intro p payload
  exact ⟨rfl, rfl, rfl, rfl⟩

section Pseudo

variable (p : Params) (payload : List Byte)

/-! ### The lines the pseudo-instructions stand for (R87) -/

theorem asmLine_cfgRead (t reg : List Char) {w : List Char} {width : BitVec 3} (h : fieldOf 3 w = some width) :
    asmLine p "cfg.read" [t, reg, w] payload = do return [← asmCfgRead t reg width] := by
  simp [asmLine, asmRequest, h]

theorem asmLine_start_read (unit lba : List Char) :
    asmLine p "start" [unit, lba, ['r']] payload = do return [← asmStart unit lba false payload] := by
  simp [asmLine, asmRequest, writingOf]

/-- The fourth operand names the payload that stands beside the text. -/
theorem asmLine_start_write (unit lba buf : List Char) :
    asmLine p "start" [unit, lba, ['w'], buf] payload = do return [← asmStart unit lba true payload] := by
  simp [asmLine, asmRequest]

theorem asmLine_complete {w : List Char} {writing : Bool} (h : writingOf w = some writing) :
    asmLine p "complete" [w] payload = some [.complete writing] := by
  simp [asmLine, asmRequest, h]

/-- P_IRQ_WIDTH as text is read back as itself. -/
theorem fieldOf_irqWidth (width : IrqWidth) :
    fieldOf 3 (toString width.bytes).toList = some (BitVec.ofNat 3 width.bytes) := by
  cases width <;> decide

end Pseudo

/-- Settles O7: both sides read the same fields and make the same requests. -/
theorem pseudoLinesExpand : Obligations.PseudoLinesExpand := by
  intro p t reg unit lba buf payload
  refine ⟨?_, ?_, ?_, ?_, ?_, ?_, ?_⟩
  · rw [asmLine_cfgRead p payload t reg (width := 1) (by decide)]
    simp [asmLine]
  · rw [asmLine_cfgRead p payload t reg (width := 2) (by decide)]
    simp [asmLine]
  · rw [asmLine_cfgRead p payload t reg (width := 4) (by decide)]
    simp [asmLine]
  · rw [asmLine_cfgRead p payload t _ (fieldOf_irqWidth p.irqWidth)]
    simp [asmLine]
  · rw [asmLine_cfgRead p payload t _ (width := 2) (by decide)]
    simp [asmLine]
  · rw [asmLine_start_read, asmLine_complete p payload (writing := false) rfl]
    simp [asmLine, Option.bind_assoc]
  · rw [asmLine_start_write, asmLine_complete p payload (writing := true) rfl]
    simp [asmLine, Option.bind_assoc]

end Sys2Proof.Machine
end

section
/-! ## Reset (O45, O46) -/

namespace Sys2Proof.Machine

/-- Settles O45: each field of the reset state is the value named. -/
theorem resetIsIdle : Obligations.ResetIsIdle :=
  ⟨rfl, rfl, rfl, rfl, rfl, rfl, rfl, rfl, rfl, rfl, rfl, rfl, rfl, rfl, rfl, rfl⟩

theorem liveInv_reset : LiveInv State.reset where
  params_wf := by decide
  driver_fits := trivial
  disk_needs_driver := nofun
  session_needs_disk := fun hne => absurd rfl hne
  not_halted := rfl
  not_fatal := rfl
  data_fits := nofun
  trace_ids := nofun

/-- Settles O46: nothing is installed, pending, halted or open. -/
theorem resetMeetsInvariant : Obligations.ResetMeetsInvariant := liveInv_reset.blockInv trivial (.inl rfl)

end Sys2Proof.Machine
end

section
/-! ## Refusals before the first event (O18, O35) -/

namespace Sys2Proof.Machine

section Refusals

variable {s : State}

theorem refuseUnless_ne_none {c : Bool} {r : Refusal} {rest : Option Refusal} (h : rest ≠ none) :
    refuseUnless c r rest ≠ none := mt (fun hc => (refuseUnless_eq_none.1 hc).2) h

theorem onRequest_refused_of_ne_none {i : Instr} {check : State → Option Refusal} {start : State → Out}
    {go : Pos → State → Out} (h : Ready s) (hc : check s ≠ none) :
    ∃ r, onRequest i check start go s = .refused r := by
  obtain ⟨r, hr⟩ := Option.ne_none_iff_exists'.1 hc
  exact ⟨r, onRequest_refused h hr⟩

/-- Without a driver, a disk or its session a transfer is refused (R149). -/
theorem ataCheck_ne_none {session : Xfer} (h : s.driver = .none ∨ s.present = false ∨ s.xfer ≠ session) :
    ataCheck session s ≠ none := by
  intro hnone
  obtain ⟨hd, hp, hx⟩ := ataCheck_eq_none hnone
  obtain h | h | h := h
  · exact hd h
  · simp [hp] at h
  · exact h hx

end Refusals

/-- Settles O18: the width is checked before the first event. -/
theorem configReadBadWidthRefused : Obligations.ConfigReadBadWidthRefused := by
  intro s tagf reg width h h1 h2 h4
  have hbad : ¬ widthOk width = true := mt widthOk_iff.1 (not_or.2 ⟨h1, not_or.2 ⟨h2, h4⟩⟩)
  rw [exec, execCfgRead]
  exact onRequest_refused h (if_neg hbad)

/-- Settles O35: START's and COMPLETE's checks hold `ataCheck`, which finds what is missing. -/
theorem transfersRefusedOutOfSession : Obligations.TransfersRefusedOutOfSession := by
  refine fun s h => ⟨fun unit writing lba payload hmissing => ?_, fun writing hmissing => ?_⟩
  · rw [exec, execStart]
    exact onRequest_refused_of_ne_none h (refuseUnless_ne_none (ataCheck_ne_none hmissing))
  · rw [exec, execComplete]
    exact onRequest_refused_of_ne_none h (ataCheck_ne_none hmissing)

end Sys2Proof.Machine
end

section
/-! ## What every step leaves alone: the parameters, the host's list, the history (O48, O53) -/

namespace Sys2Proof.Machine

/-- Settles O48: a step ends a CLEAR_INTR with an EOI, or records at most one event that is none. -/
theorem stepRecordsAtMostOneEvent : Obligations.StepRecordsAtMostOneEvent := by
  intro s t hs
  obtain (hnone | ⟨e, he, -⟩) | ⟨-, -, -, irq, he⟩ := step_recordsNoEoi_or_ends hs
  · exact .inl hnone
  · exact .inr ⟨e, he⟩
  · exact .inr ⟨.eoi irq, he⟩

theorem exec_keeps_params_requests {s t : State} {i : Instr} (he : exec i s = .next t) :
    t.params = s.params ∧ t.requests = s.requests := by
  by_cases hi : ∃ vendor device tagf, i = .attach vendor device tagf
  · obtain ⟨vendor, device, tagf, rfl⟩ := hi
    obtain ⟨hparams, -, hrequests, -⟩ := attachFrame s t vendor device tagf he
    exact ⟨hparams, hrequests⟩
  · push Not at hi
    obtain ⟨hparams, -, -, hrequests⟩ := post_iff.1 (exec_keepsDevice hi) t he
    exact ⟨hparams, hrequests⟩

/-- Settles O53: only the acceptance of a request takes it from the list, and no instruction writes either field. -/
theorem stepKeepsParametersAndRequests : Obligations.StepKeepsParametersAndRequests := by
  intro s t hs
  obtain ⟨-, -, rfl⟩ | ⟨r, rs, i, -, hr, -, he⟩ | ⟨i, k, -, he⟩ := step_eq_next hs
  · exact ⟨rfl, .inl rfl⟩
  · obtain ⟨hparams, hrequests⟩ := exec_keeps_params_requests he
    exact ⟨hparams, .inr ⟨r, hr.trans (congrArg (r :: ·) hrequests.symm)⟩⟩
  · obtain ⟨hparams, hrequests⟩ := exec_keeps_params_requests he
    exact ⟨hparams, .inl hrequests⟩

end Sys2Proof.Machine
end

section
/-! ## Which requests halt the block (O51)

The frames of the other requests hold `halted` and `fatal`; ATTACH and CLEAR_INTR write them by one fatal error each. -/

namespace Sys2Proof.Machine

section Halts

variable {s t u : State} {k : Pos} {e : Status}

/-- `halted` and `fatal` are as they were. -/
def KeepsHalt (s t : State) : Prop := t.halted = s.halted ∧ t.fatal = s.fatal

/-- `halted` and `fatal` are as they were, or the fatal error `e` ended the request (R206). -/
def HaltsOnly (e : Status) (s t : State) : Prop :=
  KeepsHalt s t ∨ (t.halted = true ∧ t.seq = .idle ∧ t.fatal = some e ∧ ∃ v, t.result = some ⟨e, v, none⟩)

theorem HaltsOnly.of_kept (h : KeepsHalt s t) : HaltsOnly e s t := .inl h

theorem raise_haltsOnly {v : Word} (h : KeepsHalt s u) : Post (HaltsOnly e s) (raise e v u) :=
  post_raise (fun _ => .inl h) fun _ => .inr ⟨rfl, rfl, rfl, v, rfl⟩

theorem raise_keepsHalt {e : Status} {v : Word} (he : e.isFatal = false) (h : KeepsHalt s u) :
    Post (KeepsHalt s) (raise e v u) := by
  rw [raise_of_not_fatal he]
  exact h

theorem endProbe_keepsHalt (h : KeepsHalt s u) (present : Bool) : Post (KeepsHalt s) (endProbe present u) := by
  cases present with
  | true => exact post_finish.2 h
  | false => exact raise_keepsHalt rfl h

theorem afterPoll_keepsHalt {i : Instr} {n : Nat} {r : Byte} (h : KeepsHalt s u) :
    Post (KeepsHalt s) (afterPoll i n r u) := by
  unfold afterPoll
  split
  · exact endProbe_keepsHalt h _
  · split
    · exact post_goto.2 h
    · exact endProbe_keepsHalt h _

theorem probeGo_keepsHalt {i : Instr} : Post (KeepsHalt s) (probeGo i k s) := by
  refine post_withBases fun b _ => ?_
  cases k with
  | probeWait p => exact post_statusWait (fun _ => post_goto.2 ⟨rfl, rfl⟩) (fun _ => ⟨rfl, rfl⟩) ⟨rfl, rfl⟩
  | probePoll n => exact afterPoll_keepsHalt ⟨rfl, rfl⟩
  | _ => exact post_fault _

theorem attachGo_keepsHalt {vendor device tagf : BitVec 16} :
    Post (KeepsHalt s) (attachGo vendor device tagf k s) := by
  unfold attachGo
  split
  · next n p =>
    refine post_configRead (fun _ => ⟨rfl, rfl⟩) (fun _ _ => ⟨rfl, rfl⟩) fun v _ => ?_
    cases n <;> exact post_goto.2 ⟨rfl, rfl⟩
  · exact probeGo_keepsHalt

theorem attachStart_haltsOnly {vendor device tagf : BitVec 16} :
    Post (HaltsOnly .duplicateDevice s) (attachStart vendor device tagf s) := by
  unfold attachStart
  split
  · exact (raise_keepsHalt rfl ⟨rfl, rfl⟩).mono fun _ => .of_kept
  · next handler _ =>
    split
    · exact raise_haltsOnly ⟨rfl, rfl⟩
    · cases handler with
      | legacy =>
        exact (attachGo_keepsHalt (s := (s.setDriver legacyDriver).setSpin 0) (k := .probeWait .read)).mono
          fun _ => .of_kept
      | native => exact (attachGo_keepsHalt (k := .attachCfg .irq .address)).mono fun _ => .of_kept

theorem execAttach_haltsOnly {vendor device tagf : BitVec 16} :
    Post (HaltsOnly .duplicateDevice s) (execAttach vendor device tagf s) :=
  post_onRequest (fun _ _ => attachStart_haltsOnly (s := s.nextId))
    (fun _ _ => attachGo_keepsHalt.mono fun _ => .of_kept) (.of_kept ⟨rfl, rfl⟩)

theorem clearIntrGo_haltsOnly : Post (HaltsOnly .diskMediaFatal s) (clearIntrGo k s) := by
  cases k with
  | clearStatus1 => exact post_withBases fun _ _ => post_goto.2 (.of_kept ⟨rfl, rfl⟩)
  | clearStatus2 => exact post_withBases fun _ _ => post_goto.2 (.of_kept ⟨rfl, rfl⟩)
  | clearBmRead =>
    refine post_withNative fun b bm _ => ?_
    dsimp only
    split
    · exact raise_haltsOnly ⟨rfl, rfl⟩
    · exact post_goto.2 (.of_kept ⟨rfl, rfl⟩)
  | clearBmWrite byte => exact post_withNative fun _ _ _ => post_goto.2 (.of_kept ⟨rfl, rfl⟩)
  | clearEoi => exact post_withBases fun _ _ => post_finish.2 (.of_kept ⟨rfl, rfl⟩)
  | _ => exact post_fault _

theorem execClearIntr_haltsOnly : Post (HaltsOnly .diskMediaFatal s) (execClearIntr s) :=
  post_onRequest (fun _ _ => clearIntrGo_haltsOnly (s := s.nextId)) (fun _ _ => clearIntrGo_haltsOnly)
    (.of_kept ⟨rfl, rfl⟩)

/-- The requests other than ATTACH and CLEAR_INTR have frames that hold `halted` and `fatal`. -/
theorem exec_keepsHalt {i : Instr} (hattach : ∀ vendor device tagf, i ≠ .attach vendor device tagf)
    (hclear : i ≠ .clearIntr) (he : exec i s = .next t) : KeepsHalt s t := by
  have hconfig := configRequestsFrame s t i
  have hpure := pureRequestsFrame s t i
  have hstart := startFrame s t i
  cases i with
  | cfgRead tagf reg width =>
    obtain ⟨-, -, -, -, hh, hf, -⟩ := hconfig (.inl ⟨_, _, _, rfl⟩) he
    exact ⟨hh, hf⟩
  | cfgWrite tagf reg val =>
    obtain ⟨-, -, -, -, hh, hf, -⟩ := hconfig (.inr ⟨_, _, _, rfl⟩) he
    exact ⟨hh, hf⟩
  | tagMake bus dev fn => rw [hpure (.inl ⟨_, _, _, rfl⟩) he]; exact ⟨rfl, rfl⟩
  | tagSplit tag => rw [hpure (.inr (.inl ⟨_, rfl⟩)) he]; exact ⟨rfl, rfl⟩
  | barDecode raw => rw [hpure (.inr (.inr ⟨_, rfl⟩)) he]; exact ⟨rfl, rfl⟩
  | attach vendor device tagf => exact absurd rfl (hattach vendor device tagf)
  | start unit writing lba payload =>
    obtain ⟨-, -, -, hh, hf, -⟩ := hstart (.inl ⟨_, _, _, _, rfl⟩) he
    exact ⟨hh, hf⟩
  | complete writing =>
    obtain ⟨-, -, -, hh, hf, -⟩ := completeFrame s t writing he
    exact ⟨hh, hf⟩
  | hasIntr =>
    obtain ⟨-, -, -, -, -, -, -, hkept⟩ := interruptRequestsFrame s t .hasIntr (.inl rfl) he
    exact hkept rfl
  | clearIntr => exact absurd rfl hclear
  | ataCmdRead =>
    obtain ⟨-, -, -, hh, hf, -⟩ := hstart (.inr (.inl rfl)) he
    exact ⟨hh, hf⟩
  | ataCmdWrite =>
    obtain ⟨-, -, -, hh, hf, -⟩ := hstart (.inr (.inr rfl)) he
    exact ⟨hh, hf⟩

theorem HaltsOnly.of_changed (h : HaltsOnly e s t) (hne : t.halted ≠ s.halted ∨ t.fatal ≠ s.fatal) :
    t.halted = true ∧ t.seq = .idle ∧ t.fatal = some e ∧ ∃ v, t.result = some ⟨e, v, none⟩ := by
  obtain ⟨hh, hf⟩ | hhalts := h
  · simp [hh, hf] at hne
  · exact hhalts

end Halts

/-- Settles O51: ATTACH and CLEAR_INTR halt by their fatal error alone, and no other request halts. -/
theorem onlyFatalErrorsHalt : Obligations.OnlyFatalErrorsHalt := by
  intro s t i he hne
  by_cases hattach : ∃ vendor device tagf, i = .attach vendor device tagf
  · obtain ⟨vendor, device, tagf, rfl⟩ := hattach
    obtain ⟨hhalted, hseq, hfatal, v, hv⟩ := (post_iff.1 execAttach_haltsOnly t he).of_changed hne
    exact ⟨.inl ⟨vendor, device, tagf, rfl, hfatal⟩, hhalted, hseq, _, v, hfatal, hv⟩
  by_cases hclear : i = .clearIntr
  · subst hclear
    obtain ⟨hhalted, hseq, hfatal, v, hv⟩ := (post_iff.1 execClearIntr_haltsOnly t he).of_changed hne
    exact ⟨.inr ⟨rfl, hfatal⟩, hhalted, hseq, _, v, hfatal, hv⟩
  · push Not at hattach
    obtain ⟨hh, hf⟩ := exec_keepsHalt hattach hclear he
    simp [hh, hf] at hne

end Sys2Proof.Machine
end

section
/-! ## No rule reads the history (O49)

A state `under h` has the entries `h` before its own. With the oracle's next answer given, every part of a step commutes
with `under h`: it answers from `under h s` what it answers from `s`, under `h`. -/

namespace Sys2Proof.Machine

/-- The state with an older history before its own. -/
def under (h : List Entry) (s : State) : State := { s with trace := h ++ s.trace }

/-- The outcome with its next state changed. -/
def onNext (f : State → State) : Out → Out
  | .next s => .next (f s)
  | .fault r => .fault r
  | .refused r => .refused r

theorem onNext_eq_next {f : State → State} {o : Out} {t : State} (ho : onNext f o = .next t) :
    ∃ u, o = .next u ∧ f u = t := by
  cases o with
  | next u => exact ⟨u, rfl, by simpa [onNext] using ho⟩
  | fault r => cases ho
  | refused r => cases ho

section Under

variable {h : List Entry} {s : State} {k : Pos} {i : Instr}

/-! ### The shared operations -/

theorem emit_under (e : Event) : (under h s).emit e = under h (s.emit e) := by
  simp [under, State.emit]

theorem openConfig_under (a : Word) : openConfig a (under h s) = under h (openConfig a s) := by
  simp only [openConfig, emit_under]
  rfl

theorem in1_under (ha : s.answers ≠ []) (port : Port) : (under h s).in1 port = s.in1 port := by
  obtain ⟨a, as, has⟩ := List.exists_cons_of_ne_nil ha
  rw [State.in1, State.in1, answer_cons (s := under h s) has, answer_cons has]

theorem in4_under (ha : s.answers ≠ []) (port : Port) : (under h s).in4 port = s.in4 port := by
  obtain ⟨a, as, has⟩ := List.exists_cons_of_ne_nil ha
  rw [State.in4, State.in4, answer_cons (s := under h s) has, answer_cons has]

theorem afterIn1_under (ha : s.answers ≠ []) (port : Port) : (under h s).afterIn1 port = under h (s.afterIn1 port) := by
  rw [State.afterIn1, in1_under ha, emit_under]
  rfl

theorem afterIn4_under (ha : s.answers ≠ []) (port : Port) : (under h s).afterIn4 port = under h (s.afterIn4 port) := by
  rw [State.afterIn4, in4_under ha, emit_under]
  rfl

theorem raise_under {e : Status} {v : Word} : raise e v (under h s) = onNext (under h) (raise e v s) := by
  cases e <;> rfl

theorem withBases_under {f g : Bases → Out} (hfg : ∀ b, f b = onNext (under h) (g b)) :
    withBases f (under h s) = onNext (under h) (withBases g s) := by
  cases hb : s.driver.bases with
  | some b => rw [withBases_eq hb, withBases_eq (s := under h s) hb, hfg]
  | none => simp [withBases, under, hb, onNext]

theorem withNative_under {f g : Bases → Port → Out} (hfg : ∀ b bm, f b bm = onNext (under h) (g b bm)) :
    withNative f (under h s) = onNext (under h) (withNative g s) := by
  cases hd : s.driver with
  | native b bm => rw [withNative_eq hd, withNative_eq (s := under h s) hd, hfg]
  | legacy b => simp [withNative, under, hd, onNext]
  | none => simp [withNative, under, hd, onNext]

theorem configRead_under (ha : s.answers ≠ []) {tag : Word} {reg : BitVec 8} {at_ : CfgPhase → Pos}
    {done : Word → State → Out} {p : CfgPhase}
    (hdone : ∀ v u, done v (under h u) = onNext (under h) (done v u)) :
    configRead i tag reg at_ done p (under h s) = onNext (under h) (configRead i tag reg at_ done p s) := by
  cases p with
  | address => simp only [configRead, openConfig_under]; rfl
  | data => simp only [configRead, in4_under ha, afterIn4_under ha]; rfl
  | close v => simp only [configRead, closeConfig, openConfig_under, hdone]

theorem statusWait_under (ha : s.answers ≠ []) {b : Bases} {at_ : WaitPhase → Pos} {done : Byte → Bool}
    {exit : Byte → State → Out} {p : WaitPhase}
    (hexit : ∀ st u, exit st (under h u) = onNext (under h) (exit st u)) :
    statusWait i b at_ done exit p (under h s) = onNext (under h) (statusWait i b at_ done exit p s) := by
  cases p with
  | read =>
    simp only [statusWait, in1_under ha, afterIn1_under ha, hexit]
    split
    · rfl
    · rfl
  | diag => simp only [statusWait, emit_under]; rfl

theorem onRequest_under {check : State → Option Refusal} {start : State → Out} {go : Pos → State → Out}
    (hcheck : check (under h s) = check s) (hstart : start (under h s.nextId) = onNext (under h) (start s.nextId))
    (hgo : ∀ k, go k (under h s) = onNext (under h) (go k s)) :
    onRequest i check start go (under h s) = onNext (under h) (onRequest i check start go s) := by
  by_cases hh : s.halted = true
  · rw [onRequest_halted hh, onRequest_halted (s := under h s) hh]
    rfl
  replace hh : s.halted = false := by simpa using hh
  cases hs : s.seq with
  | run j k =>
    by_cases hj : j = i
    · subst hj
      rw [onRequest_running ⟨hh, hs⟩, onRequest_running (s := under h s) ⟨hh, hs⟩, hgo]
    · rw [onRequest_held ⟨hh, hs⟩ hj, onRequest_held (s := under h s) ⟨hh, hs⟩ hj]
      rfl
  | idle =>
    cases hc : check s with
    | some r =>
      rw [onRequest_refused ⟨hh, hs⟩ hc, onRequest_refused (s := under h s) ⟨hh, hs⟩ (hcheck.trans hc)]
      rfl
    | none =>
      rw [onRequest_ready ⟨hh, hs⟩ hc, onRequest_ready (s := under h s) ⟨hh, hs⟩ (hcheck.trans hc)]
      exact hstart

/-! ### The events of each request -/

theorem cfgReadGo_under (ha : s.answers ≠ []) {tagf : BitVec 16} {reg : BitVec 8} {width : BitVec 3} :
    cfgReadGo tagf reg width k (under h s) = onNext (under h) (cfgReadGo tagf reg width k s) := by
  cases k with
  | cfgRead p => exact configRead_under ha fun _ _ => rfl
  | _ => rfl

theorem cfgWriteGo_under {tagf : BitVec 16} {reg : BitVec 8} {val : Word} :
    cfgWriteGo tagf reg val k (under h s) = onNext (under h) (cfgWriteGo tagf reg val k s) := by
  cases k with
  | cfgWrite p =>
    cases p with
    | address => simp only [cfgWriteGo, openConfig_under]; rfl
    | data => simp only [cfgWriteGo, emit_under]; rfl
    | close => simp only [cfgWriteGo, closeConfig, openConfig_under]; rfl
  | _ => rfl

theorem endProbe_under (present : Bool) : endProbe present (under h s) = onNext (under h) (endProbe present s) := by
  cases present <;> rfl

theorem afterPoll_under (n : Nat) (r : Byte) : afterPoll i n r (under h s) = onNext (under h) (afterPoll i n r s) := by
  unfold afterPoll
  split
  · exact endProbe_under _
  · split
    · rfl
    · exact endProbe_under _

theorem probeGo_under (ha : s.answers ≠ []) : probeGo i k (under h s) = onNext (under h) (probeGo i k s) := by
  refine withBases_under fun b => ?_
  cases k with
  | probeWait p => exact statusWait_under ha fun _ _ => rfl
  | probePoll n =>
    show afterPoll i n ((under h s).in1 _) ((under h s).afterIn1 _) = _
    rw [in1_under ha, afterIn1_under ha, afterPoll_under]
    rfl
  | _ => rfl

theorem attachGo_under (ha : s.answers ≠ []) {vendor device tagf : BitVec 16} :
    attachGo vendor device tagf k (under h s) = onNext (under h) (attachGo vendor device tagf k s) := by
  unfold attachGo
  split
  · next n p =>
    refine configRead_under ha fun v u => ?_
    cases n <;> rfl
  · exact probeGo_under ha

theorem runHandler_under (ha : s.answers ≠ []) {vendor device tagf : BitVec 16} (handler : Handler) :
    runHandler vendor device tagf handler (under h s) = onNext (under h) (runHandler vendor device tagf handler s) := by
  cases handler with
  | legacy => exact attachGo_under (s := (s.setDriver legacyDriver).setSpin 0) (k := .probeWait .read) ha
  | native => exact attachGo_under (k := .attachCfg .irq .address) ha

theorem attachStart_under (ha : s.answers ≠ []) {vendor device tagf : BitVec 16} :
    attachStart vendor device tagf (under h s) = onNext (under h) (attachStart vendor device tagf s) := by
  cases hl : lookupHandler s.params.attachTable vendor device with
  | none =>
    rw [attachStart_of_unknown hl, attachStart_of_unknown (s := under h s) hl]
    exact raise_under
  | some handler =>
    have hit : lookupHandler s.params.attachTable vendor device ≠ none := by simp [hl]
    by_cases hd : s.driver = .none
    · simpa [attachStart, under, hl, hd] using runHandler_under ha handler
    · rw [attachStart_of_installed hd hit, attachStart_of_installed (s := under h s) hd hit]
      exact raise_under

theorem issueCommand_under (writing : Bool) :
    issueCommand i writing (under h s) = onNext (under h) (issueCommand i writing s) := by
  refine withBases_under fun b => ?_
  simp only [emit_under]
  cases writing <;> rfl

theorem afterPush_under (n : Nat) : afterPush i n (under h s) = onNext (under h) (afterPush i n s) := by
  unfold afterPush
  split <;> rfl

theorem startGo_under (ha : s.answers ≠ []) {unit : BitVec 1} {writing : Bool} {lba : BitVec 28}
    {payload : List Byte} :
    startGo unit writing lba payload k (under h s) = onNext (under h) (startGo unit writing lba payload k s) := by
  refine withBases_under fun b => ?_
  cases k with
  | startWait p => exact statusWait_under ha fun _ _ => rfl
  | startReg r => simp only [emit_under]; rfl
  | startCommand => exact issueCommand_under writing
  | startDrq => simp only [in1_under ha, afterIn1_under ha]; rfl
  | startPush n => simp only [emit_under, afterPush_under]
  | _ => rfl

theorem afterCheckedWait_under (st : Byte) :
    afterCheckedWait i st (under h s) = onNext (under h) (afterCheckedWait i st s) := by
  unfold afterCheckedWait
  split <;> rfl

theorem afterPull_under (got : List Word) : afterPull i got (under h s) = onNext (under h) (afterPull i got s) := by
  unfold afterPull
  split <;> rfl

theorem completeGo_under (ha : s.answers ≠ []) {writing : Bool} :
    completeGo writing k (under h s) = onNext (under h) (completeGo writing k s) := by
  refine withBases_under fun b => ?_
  cases k with
  | completeWait p => exact statusWait_under ha fun _ _ => afterCheckedWait_under _
  | completePull got => simp only [in4_under ha, afterIn4_under ha, afterPull_under]
  | _ => rfl

theorem hasIntrGo_under (ha : s.answers ≠ []) : hasIntrGo k (under h s) = onNext (under h) (hasIntrGo k s) := by
  refine withNative_under fun b bm => ?_
  cases k with
  | hasIntrRead => simp only [in1_under ha, afterIn1_under ha]; rfl
  | _ => rfl

theorem clearIntrGo_under (ha : s.answers ≠ []) :
    clearIntrGo k (under h s) = onNext (under h) (clearIntrGo k s) := by
  cases k with
  | clearStatus1 => exact withBases_under fun b => by rw [afterIn1_under ha]; rfl
  | clearStatus2 => exact withBases_under fun b => by rw [afterIn1_under ha]; rfl
  | clearBmRead =>
    refine withNative_under fun b bm => ?_
    simp only [in1_under ha, afterIn1_under ha]
    split
    · exact raise_under
    · rfl
  | clearBmWrite byte => exact withNative_under fun b bm => by rw [emit_under]; rfl
  | clearEoi => exact withBases_under fun b => by rw [emit_under]; rfl
  | _ => rfl

theorem deviceCommand_under (writing : Bool) :
    deviceCommand writing (under h s) = onNext (under h) (deviceCommand writing s) := by
  have hh : (under h s).halted = s.halted := rfl
  have hs : (under h s).seq = s.seq := rfl
  unfold deviceCommand
  rw [hh, hs]
  split
  · rfl
  · split
    · split
      · exact issueCommand_under _
      · rfl
    · rfl
    · rfl

/-- With an answer listed, `exec` does the same under any history (R34, R55). -/
theorem exec_under (ha : s.answers ≠ []) (i : Instr) : exec i (under h s) = onNext (under h) (exec i s) := by
  have hpure : ∀ {check : State → Option Refusal} {v : Word}, check (under h s) = check s →
      onRequest i check (finish v none) noPosition (under h s) =
        onNext (under h) (onRequest i check (finish v none) noPosition s) :=
    fun hcheck => onRequest_under hcheck rfl fun _ => rfl
  unfold exec
  cases i with
  | cfgRead tagf reg width =>
    exact onRequest_under rfl (cfgReadGo_under (s := s.nextId) ha) fun _ => cfgReadGo_under ha
  | cfgWrite tagf reg val =>
    refine onRequest_under rfl ?_ fun _ => cfgWriteGo_under
    split
    · exact raise_under
    · exact cfgWriteGo_under
  | tagMake bus dev fn => exact hpure rfl
  | tagSplit tag => exact hpure rfl
  | barDecode raw => exact hpure rfl
  | attach vendor device tagf =>
    exact onRequest_under rfl (attachStart_under (s := s.nextId) ha) fun _ => attachGo_under ha
  | start unit writing lba payload =>
    exact onRequest_under rfl (startGo_under (s := s.nextId.setSpin 0) ha) fun _ => startGo_under ha
  | complete writing =>
    refine onRequest_under rfl ?_ fun _ => completeGo_under ha
    split
    · rfl
    · exact completeGo_under (s := s.nextId.setSpin 0) ha
  | hasIntr =>
    refine onRequest_under rfl ?_ fun _ => hasIntrGo_under ha
    have hv : (under h s.nextId).variant = s.nextId.variant := rfl
    rw [hv]
    split
    · rfl
    · exact hasIntrGo_under (s := s.nextId) ha
  | clearIntr => exact onRequest_under rfl (clearIntrGo_under (s := s.nextId) ha) fun _ => clearIntrGo_under ha
  | ataCmdRead => exact deviceCommand_under false
  | ataCmdWrite => exact deviceCommand_under true

end Under

/-- Settles O49: the state is one without history under its own, and `exec` commutes with the histories over it. -/
theorem traceIsNotRead : Obligations.TraceIsNotRead := by
  intro s t i ha he
  have hbare : exec i s = onNext (under s.trace) (exec i { s with trace := [] }) := by
    rw [← exec_under (s := { s with trace := [] }) ha]
    simp [under]
  obtain ⟨u, hu, rfl⟩ := onNext_eq_next (hbare.symm.trans he)
  refine ⟨u.trace, rfl, fun h => ?_⟩
  have hover : exec i (under h { s with trace := [] }) = .next (under h u) := by
    rw [exec_under (s := { s with trace := [] }) ha, hu]
    rfl
  simpa [under] using hover

end Sys2Proof.Machine
end

section
/-! ## How the session moves (O36)

START ends with the session its direction opens, COMPLETE with none; every other request leaves the session alone. -/

namespace Sys2Proof.Machine

section Session

variable {s t u : State} {k : Pos} {i : Instr}

/-! ### START and COMPLETE -/

/-- The session is as it was, or the request ended and the session is `x`. -/
def MovesTo (x : Xfer) (s t : State) : Prop := t.xfer = s.xfer ∨ (t.seq = .idle ∧ t.xfer = x)

theorem issueCommand_movesTo {writing : Bool} : Post (MovesTo (sessionOf writing) s) (issueCommand i writing s) := by
  refine post_withBases fun b _ => ?_
  cases writing with
  | true => exact post_goto.2 (.inl rfl)
  | false => exact post_finish.2 (.inr ⟨rfl, rfl⟩)

/-- Only a write START pushes data words (R145). -/
theorem startGo_movesTo {unit : BitVec 1} {writing : Bool} {lba : BitVec 28} {payload : List Byte}
    (hpush : ∀ n, k = .startPush n → writing = true) :
    Post (MovesTo (sessionOf writing) s) (startGo unit writing lba payload k s) := by
  refine post_withBases fun b _ => ?_
  cases k with
  | startWait p => exact post_statusWait (fun _ => post_goto.2 (.inl rfl)) (fun _ => .inl rfl) (.inl rfl)
  | startReg r => exact post_goto.2 (.inl rfl)
  | startCommand => exact issueCommand_movesTo
  | startDrq => exact post_goto.2 (.inl rfl)
  | startPush n =>
    obtain rfl := hpush n rfl
    show Post _ (afterPush _ _ _)
    unfold afterPush
    split
    · exact post_goto.2 (.inl rfl)
    · exact post_finish.2 (.inr ⟨rfl, rfl⟩)
  | _ => exact post_fault _

theorem startGo_wait_keepsXfer {unit : BitVec 1} {writing : Bool} {lba : BitVec 28} {payload : List Byte}
    {p : WaitPhase} : Post (fun t => t.xfer = s.xfer) (startGo unit writing lba payload (.startWait p) s) :=
  post_withBases fun _ _ => post_statusWait (fun _ => post_goto.2 rfl) (fun _ => rfl) rfl

theorem completeGo_movesTo {writing : Bool} : Post (MovesTo .idle s) (completeGo writing k s) := by
  refine post_withBases fun b _ => ?_
  cases k with
  | completeWait p =>
    refine post_statusWait (fun st => ?_) (fun _ => .inl rfl) (.inl rfl)
    unfold afterCheckedWait
    split
    · exact post_goto.2 (.inl rfl)
    · rw [raise_of_not_fatal rfl]
      exact post_next.2 (.inr ⟨rfl, rfl⟩)
  | completePull got =>
    show Post _ (afterPull _ _ _)
    unfold afterPull
    split
    · exact post_goto.2 (.inl rfl)
    · exact post_finish.2 (.inr ⟨rfl, rfl⟩)
  | _ => exact post_fault _

/-- Where the checked wait moves the session, it ends COMPLETE with DiskMediaError (R147). -/
theorem completeGo_wait_fails {writing : Bool} {p : WaitPhase} :
    Post (fun t => t.xfer ≠ s.xfer → t.result = some ⟨.diskMediaError, 0, none⟩)
      (completeGo writing (.completeWait p) s) := by
  refine post_withBases fun b _ => ?_
  refine post_statusWait (fun st => ?_) (fun _ hne => absurd rfl hne) fun hne => absurd rfl hne
  unfold afterCheckedWait
  split
  · exact post_goto.2 fun hne => absurd rfl hne
  · rw [raise_of_not_fatal rfl]
    exact post_next.2 fun _ => rfl

/-! ### Every instruction -/

/-- The ways R146 gives an instruction to move the session, from `s` to `t`. -/
inductive SessionMove (s : State) : Instr → State → Prop where
  | opens {i : Instr} {t : State} {unit : BitVec 1} {writing : Bool} {lba : BitVec 28} {payload : List Byte} {k : Pos}
    (hrun : s.seq = .run (.start unit writing lba payload) k) (hfrom : s.xfer = .idle) (hend : t.seq = .idle)
    (hto : t.xfer = sessionOf writing) : SessionMove s i t
  | completesRead {t : State} (hfrom : s.xfer = .readPending) (hend : t.seq = .idle) (hto : t.xfer = .idle)
    (hfails : s.seq = .idle → t.result = some ⟨.diskMediaError, 0, none⟩) : SessionMove s (.complete false) t
  | completesWrite {t : State} (hidle : s.seq = .idle) (hfrom : s.xfer = .writePending) (hend : t.seq = .idle)
    (hto : t.xfer = .idle) : SessionMove s (.complete true) t

/-- A START stands at its positions with no session open (R144, R149). -/
theorem StandsAt.start_idle {unit : BitVec 1} {writing : Bool} {lba : BitVec 28} {payload : List Byte}
    (h : StandsAt (.start unit writing lba payload) k s) : s.xfer = .idle := by
  have hfits := h.pos_fits
  cases k with
  | startWait p => exact hfits.2
  | startReg r => exact hfits.2
  | startCommand => exact hfits.2
  | startDrq => exact hfits.2.1
  | startPush n => exact hfits.2.1
  | _ => exact hfits.elim

theorem StandsAt.complete_readPending {writing : Bool} (h : StandsAt (.complete writing) k s) :
    s.xfer = .readPending := by
  have hfits := h.pos_fits
  cases k with
  | completeWait p => exact hfits.2.1
  | completePull got => exact hfits.2.1
  | _ => exact hfits.elim

theorem execStart_sessionMove {unit : BitVec 1} {writing : Bool} {lba : BitVec 28} {payload : List Byte}
    (h : BlockInv s) (he : execStart unit writing lba payload s = .next t) (hne : t.xfer ≠ s.xfer) :
    SessionMove s i t := by
  obtain ⟨hr, -, hstart⟩ | ⟨k, hk, hgo⟩ | ⟨-, -, -, -, rfl⟩ := onRequest_eq_next he
  · have hkept : t.xfer = s.xfer := post_iff.1 (startGo_wait_keepsXfer (s := s.nextId.setSpin 0)) t hstart
    exact absurd hkept hne
  · have hstands := standsAt_of_blockInv h hk
    have hpush : ∀ n, k = .startPush n → writing = true := by
      rintro n rfl
      obtain ⟨-, -, hw, -⟩ := hstands.pos_fits
      exact hw
    obtain hkept | ⟨hend, hto⟩ := post_iff.1 (startGo_movesTo hpush) t hgo
    · exact absurd hkept hne
    · exact .opens hk.2 hstands.start_idle hend hto
  · exact absurd rfl hne

theorem deviceCommand_sessionMove {writing : Bool} (h : BlockInv s) :
    Post (fun t => t.xfer ≠ s.xfer → SessionMove s i t) (deviceCommand writing s) := by
  refine post_deviceCommand (fun unit lba payload hr => ?_) fun hne => absurd rfl hne
  refine issueCommand_movesTo.mono fun t ht hne => ?_
  obtain ⟨hend, hto⟩ := ht.resolve_left hne
  exact .opens hr.2 (standsAt_of_blockInv h hr).start_idle hend hto

theorem execComplete_sessionMove {writing : Bool} (h : BlockInv s) (he : execComplete writing s = .next t)
    (hne : t.xfer ≠ s.xfer) : SessionMove s (.complete writing) t := by
  obtain ⟨hr, hc, hstart⟩ | ⟨k, hk, hgo⟩ | ⟨-, -, -, -, rfl⟩ := onRequest_eq_next he
  · obtain ⟨-, -, hx⟩ := ataCheck_eq_none hc
    cases writing with
    | true =>
      obtain rfl := finish_eq_next.1 hstart
      exact .completesWrite hr.2 hx rfl rfl
    | false =>
      have hgo : completeGo false (.completeWait .read) (s.nextId.setSpin 0) = .next t := hstart
      obtain ⟨hend, hto⟩ := (post_iff.1 completeGo_movesTo t hgo).resolve_left hne
      exact .completesRead hx hend hto fun _ => post_iff.1 completeGo_wait_fails t hgo hne
  · have hstands := standsAt_of_blockInv h hk
    obtain rfl := hstands.complete_reads
    obtain ⟨hend, hto⟩ := (post_iff.1 completeGo_movesTo t hgo).resolve_left hne
    exact .completesRead hstands.complete_readPending hend hto fun hidle => by cases hidle.symm.trans hk.2
  · exact absurd rfl hne

/-- The frames of the other requests hold the session. -/
theorem exec_sessionMove (h : BlockInv s) (he : exec i s = .next t) (hne : t.xfer ≠ s.xfer) : SessionMove s i t := by
  have hconfig := configRequestsFrame s t i
  have hpure := pureRequestsFrame s t i
  have hintr := interruptRequestsFrame s t i
  cases i with
  | cfgRead tagf reg width =>
    obtain ⟨-, -, -, hx, -⟩ := hconfig (.inl ⟨_, _, _, rfl⟩) he
    exact absurd hx hne
  | cfgWrite tagf reg val =>
    obtain ⟨-, -, -, hx, -⟩ := hconfig (.inr ⟨_, _, _, rfl⟩) he
    exact absurd hx hne
  | tagMake bus dev fn => exact absurd (congrArg State.xfer (hpure (.inl ⟨_, _, _, rfl⟩) he)) hne
  | tagSplit tag => exact absurd (congrArg State.xfer (hpure (.inr (.inl ⟨_, rfl⟩)) he)) hne
  | barDecode raw => exact absurd (congrArg State.xfer (hpure (.inr (.inr ⟨_, rfl⟩)) he)) hne
  | attach vendor device tagf =>
    obtain ⟨-, hx, -⟩ := attachFrame s t vendor device tagf he
    exact absurd hx hne
  | start unit writing lba payload => exact execStart_sessionMove h he hne
  | complete writing => exact execComplete_sessionMove h he hne
  | hasIntr =>
    obtain ⟨-, -, -, hx, -⟩ := hintr (.inl rfl) he
    exact absurd hx hne
  | clearIntr =>
    obtain ⟨-, -, -, hx, -⟩ := hintr (.inr rfl) he
    exact absurd hx hne
  | ataCmdRead => exact post_iff.1 (deviceCommand_sessionMove h) t he hne
  | ataCmdWrite => exact post_iff.1 (deviceCommand_sessionMove h) t he hne

/-- The device command at START's command position is no COMPLETE. -/
theorem eq_of_runningInstr_eq_complete {writing : Bool} (h : runningInstr i k = .complete writing) :
    i = .complete writing := by
  unfold runningInstr at h
  split at h
  · split at h <;> cases h
  · exact h

/-- What a step that is no idle wait runs, in a state that meets the invariant; a COMPLETE it runs is the next request
or the running one. -/
theorem step_runs_of_blockInv (h : BlockInv s) (hs : step s = .next t) :
    t = s ∨ ∃ i rs, BlockInv (s.setRequests rs) ∧ exec i (s.setRequests rs) = .next t ∧
      ∀ writing, i = .complete writing → NextStepOf (.complete writing) s := by
  obtain ⟨-, -, rfl⟩ | ⟨r, rs, i, hr, hreq, hd, he⟩ | ⟨i, k, hr, he⟩ := step_eq_next hs
  · exact .inl rfl
  · refine .inr ⟨i, rs, blockInv_setRequests h rs, he, fun writing hi => ?_⟩
    exact .inr ⟨hr.2, r, rs, hreq, hi ▸ hd⟩
  · refine .inr ⟨runningInstr i k, s.requests, h, he, fun writing hi => ?_⟩
    exact .inl ⟨k, eq_of_runningInstr_eq_complete hi ▸ hr.2⟩

end Session

/-- Settles O36: a step runs one instruction, and START and COMPLETE move the session as `SessionMove` says. -/
theorem sessionMoves : Obligations.SessionMoves := by
  intro s t h hs hne
  obtain rfl | ⟨i, rs, hinv, he, hnext⟩ := step_runs_of_blockInv h hs
  · exact absurd rfl hne
  · cases exec_sessionMove hinv he hne with
    | opens hrun hfrom hend hto => exact .inl ⟨hend, hfrom, _, _, _, _, _, hrun, hto⟩
    | completesRead hfrom hend hto hfails => exact .inr (.inl ⟨hend, hfrom, hto, hnext _ rfl, hfails⟩)
    | completesWrite hidle hfrom hend hto => exact .inr (.inr ⟨hend, hfrom, hto, hidle, hnext _ rfl⟩)

end Sys2Proof.Machine
end
